-- ==== Sys2Proof/Syntax.lean ====
section
/-! DEFINITION. The nine commands of the engine (30_encoding.md R63), one constructor per row of
`spec/opcode_table.json`, with the free fields of the row as its arguments. A command's operand arrays `KEY` and
`DIN` are presented beside its word (30_encoding.md R60) and are no part of the syntax. -/

namespace Sys2Proof

/-- The `DIR` field of `MAKE_SCHEDULE`: 0 encrypt, 1 decrypt (30_encoding.md R61). -/
inductive Direction where
  | enc
  | dec
  deriving DecidableEq, Repr

/-- The `KTYPE` field of `MAKE_SCHEDULE`: 0 a raw byte sequence, 1 an incompatible representation
(30_encoding.md R61). -/
inductive KeyType where
  | raw
  | other
  deriving DecidableEq, Repr

/-- A command, the "instruction" of this hardware (00_scope.md R14). `klen` is the field `KLEN`, used as an unsigned
integer (30_encoding.md R62). -/
inductive Instr where
  | tdesBlockSize
  | tdesMakeSchedule (dir : Direction) (ktype : KeyType) (klen : Nat)
  | tdesEncryptBlock
  | tdesDecryptBlock
  | tdesEffectiveStrength (klen : Nat)
  | serpentBlockSize
  | serpentMakeSchedule (dir : Direction) (ktype : KeyType) (klen : Nat)
  | serpentEncryptBlock
  | serpentDecryptBlock
  deriving DecidableEq, Repr

end Sys2Proof
end

