-- ==== Sys2Proof/WellFormed.lean ====
section
/-! DEFINITION. Which terms of `Instr` are commands of the engine: those whose `KLEN` fits its 8-bit field
(30_encoding.md R61: "length of `KEY` in bytes, 0 to 255"). The other fields cannot be ill-formed: their types have
exactly the values their bits have. -/

namespace Sys2Proof

/-- The largest value of the field `KLEN` (00_scope.md R7: "`KLEN` field range | 0 to 255 bytes"). -/
def maxKeyLength : Nat := 255

/-- The check every command passes before it is encoded (30_encoding.md R61). -/
def Instr.wellFormed : Instr → Bool
  | .tdesBlockSize => true
  | .tdesMakeSchedule _ _ klen => decide (klen ≤ maxKeyLength)
  | .tdesEncryptBlock => true
  | .tdesDecryptBlock => true
  | .tdesEffectiveStrength klen => decide (klen ≤ maxKeyLength)
  | .serpentBlockSize => true
  | .serpentMakeSchedule _ _ klen => decide (klen ≤ maxKeyLength)
  | .serpentEncryptBlock => true
  | .serpentDecryptBlock => true

end Sys2Proof
end

