-- ==== Sys2Proof/Word.lean ====
section
/-! DEFINITION. The two word types of the engine (00_scope.md R8, R9): unsigned bit vectors, bit 0 the least
significant. Everything computed on them is in `Machine/Ops.lean` and `Machine/Operands.lean`. -/

namespace Sys2Proof

/-- One byte of an operand or result array (20_memory.md R40). -/
abbrev Byte := BitVec 8

/-- The word of the schedule register files, of the command port and of `VAL` (00_scope.md R7: word width 32,
command word width 32). -/
abbrev Word := BitVec 32

end Sys2Proof
end

