-- ==== Sys2Proof/Decode.lean ====
section
/-! DEFINITION. The command word `CMD32`: the decoder, from the command map (30_encoding.md R63), and the encoder,
from the field layout (30_encoding.md R61). Both read the spec's own tables, and neither is defined by the other.
Decoding is total and looks at the command word only (30_encoding.md R64). -/

namespace Sys2Proof

/-! ### The fields of a command word (30_encoding.md R61) -/

/-- `OP`, bits 2:0. -/
def Word.op (c : Word) : BitVec 3 := c.extractLsb' 0 3
/-- `ENG`, bit 3. -/
def Word.eng (c : Word) : BitVec 1 := c.extractLsb' 3 1
/-- `DIR`, bit 4. -/
def Word.dir (c : Word) : BitVec 1 := c.extractLsb' 4 1
/-- `KTYPE`, bit 5. -/
def Word.ktype (c : Word) : BitVec 1 := c.extractLsb' 5 1
/-- Reserved bits 7:6. -/
def Word.reservedLow (c : Word) : BitVec 2 := c.extractLsb' 6 2
/-- `KLEN`, bits 15:8. -/
def Word.klen (c : Word) : BitVec 8 := c.extractLsb' 8 8
/-- Reserved bits 31:16. -/
def Word.reservedHigh (c : Word) : BitVec 16 := c.extractLsb' 16 16

/-- `DIR`: 0 encrypt, 1 decrypt (30_encoding.md R61). -/
def Direction.ofBit (b : BitVec 1) : Direction := if b = 1 then .dec else .enc
/-- The bit of a direction (30_encoding.md R61). -/
def Direction.bit : Direction → BitVec 1
  | .enc => 0
  | .dec => 1
/-- `KTYPE`: 0 raw, 1 incompatible representation (30_encoding.md R61). -/
def KeyType.ofBit (b : BitVec 1) : KeyType := if b = 1 then .other else .raw
/-- The bit of a key type (30_encoding.md R61). -/
def KeyType.bit : KeyType → BitVec 1
  | .raw => 0
  | .other => 1

/-! ### The command map (30_encoding.md R63) -/

/-- One row of the command map: a word `c` selects the row when `c & mask = pattern`. `build` reads the row's free
fields, `KLEN` as the unsigned integer `zext_32(CMD[15:8])` (30_encoding.md R62). -/
structure Row where
  pattern : Word
  mask    : Word
  build   : Word → Instr

/-- The row's selection rule (30_encoding.md R63). -/
def Row.selects (r : Row) (c : Word) : Bool := (c &&& r.mask) == r.pattern

/-- The nine rows, in the table's order (30_encoding.md R63). -/
def commandMap : List Row :=
  [ ⟨0x00000000, 0xFFFFFFFF, fun _ => .tdesBlockSize⟩,
    ⟨0x00000001, 0xFFFF00CF, fun c => .tdesMakeSchedule (.ofBit c.dir) (.ofBit c.ktype) c.klen.toNat⟩,
    ⟨0x00000002, 0xFFFFFFFF, fun _ => .tdesEncryptBlock⟩,
    ⟨0x00000003, 0xFFFFFFFF, fun _ => .tdesDecryptBlock⟩,
    ⟨0x00000004, 0xFFFF00FF, fun c => .tdesEffectiveStrength c.klen.toNat⟩,
    ⟨0x00000008, 0xFFFFFFFF, fun _ => .serpentBlockSize⟩,
    ⟨0x00000009, 0xFFFF00CF, fun c => .serpentMakeSchedule (.ofBit c.dir) (.ofBit c.ktype) c.klen.toNat⟩,
    ⟨0x0000000A, 0xFFFFFFFF, fun _ => .serpentEncryptBlock⟩,
    ⟨0x0000000B, 0xFFFFFFFF, fun _ => .serpentDecryptBlock⟩ ]

/-! ### Illegal words (30_encoding.md R67) -/

/-- Why a word matches no row (30_encoding.md R67). All of them answer `IllegalCommand` (30_encoding.md R68). -/
inductive Illegal where
  | reservedBits          -- bits 7:6 or 31:16 are not zero
  | reservedOp            -- OP is 5, 6 or 7
  | noSerpentStrength     -- OP = 4 with ENG = 1
  | reservedField         -- DIR, KTYPE or KLEN is not zero in a command that must have it zero
  deriving DecidableEq, Repr

/-- The reason a word that matches no row is illegal, the first that holds in the order R67 lists them. -/
def whyIllegal (c : Word) : Illegal :=
  if c.reservedLow ≠ 0 ∨ c.reservedHigh ≠ 0 then .reservedBits
  else if 5 ≤ c.op.toNat then .reservedOp
  else if c.op = 4 ∧ c.eng = 1 then .noSerpentStrength
  else .reservedField

/-- The decoder: the first row of the command map that the word selects, or the reason it is illegal
(30_encoding.md R63, R64, R68). The rows are disjoint, so the order does not matter. -/
def decode (c : Word) : Except Illegal Instr :=
  match commandMap.find? (·.selects c) with
  | some row => .ok (row.build c)
  | none => .error (whyIllegal c)

/-! ### The encoder (30_encoding.md R61) -/

/-- A command word assembled from its fields, the reserved bits zero (30_encoding.md R61). -/
def assemble (op : BitVec 3) (eng dir ktype : BitVec 1) (klen : BitVec 8) : Word :=
  0#16 ++ klen ++ 0#2 ++ ktype ++ dir ++ eng ++ op

/-- The word of a command, from the `OP` and `ENG` codes of R61; a field the command must have zero is zero. -/
def encode : Instr → Word
  | .tdesBlockSize => assemble 0 0 0 0 0
  | .tdesMakeSchedule dir ktype klen => assemble 1 0 dir.bit ktype.bit (BitVec.ofNat 8 klen)
  | .tdesEncryptBlock => assemble 2 0 0 0 0
  | .tdesDecryptBlock => assemble 3 0 0 0 0
  | .tdesEffectiveStrength klen => assemble 4 0 0 0 (BitVec.ofNat 8 klen)
  | .serpentBlockSize => assemble 0 1 0 0 0
  | .serpentMakeSchedule dir ktype klen => assemble 1 1 dir.bit ktype.bit (BitVec.ofNat 8 klen)
  | .serpentEncryptBlock => assemble 2 1 0 0 0
  | .serpentDecryptBlock => assemble 3 1 0 0 0

/-! ### The host's reading of the opcode table -/

/-- The command word whose low `nbits` bits are those of `w` and whose other bits are zero. Every row of
`spec/opcode_table.json` has 32 bits, numbered as 30_encoding.md R61 numbers them. -/
def tableWord (nbits w : Nat) : Word := BitVec.ofNat 32 (w % 2 ^ nbits)

/-- What the decoder reads from a row's word, `none` where it refuses. -/
def decodeTableWord (nbits w : Nat) : Option Instr :=
  match decode (tableWord nbits w) with
  | .ok i => some i
  | .error _ => none

end Sys2Proof
end

