-- ==== Sys2Proof/Config.lean ====
section
/-! DEFINITION. What one KBTE instance fixes when it is made: the parameter `SERPENT_VARIANT` (00_scope.md R7,
92_eei_decisions.md D9). It is the spec's one OPEN parameter. The spec leaves no value of a result open
(93_implementation_defined.md section 1), so there is no uninterpreted constant here. -/

namespace Sys2Proof

/-- `SERPENT_VARIANT`: the fixed-variant key length of a Serpent instance, `none` (the default), 16, 24 or 32 bytes
(00_scope.md R7; 42_serpent_keyschedule.md R140). -/
inductive SerpentVariant where
  | none
  | bytes16
  | bytes24
  | bytes32
  deriving DecidableEq, Repr

/-- The key length in bytes a variant insists on, if it insists on one (00_scope.md R7). -/
def SerpentVariant.keyLength : SerpentVariant → Option Nat
  | .none => Option.none
  | .bytes16 => some 16
  | .bytes24 => some 24
  | .bytes32 => some 32

end Sys2Proof
end

