-- ==== Sys2Proof/Machine/State.lean ====
section
/-! DEFINITION. The state of one KBTE instance (10_state.md), the host's side of its command port
(20_memory.md, 30_encoding.md R65), the reasons a step can stop, and the state after reset. -/

namespace Sys2Proof.Machine

/-! ### The schedule register files -/

/-- One set of `TDES.KS`: 32 words, words `2j` and `2j+1` the two 24-bit halves of round key `K_j`
(10_state.md R21). -/
abbrev KeySet := Vector Word 32

/-- `TDES.KS[0..2][0..31]` (10_state.md R20, R21). -/
abbrev TdesSchedule := Vector KeySet 3

/-- `SERPENT.K[0..131]` (10_state.md R20, R23). -/
abbrev SerpentSchedule := Vector Word 132

/-- A sub-engine: the two-state machine `Uninit -> Ready(schedule)` (10_state.md R25). `uninit` is `ready = 0`, where
the register file holds no value (10_state.md R32, 70_reset_and_hazards.md R231); `ready k` is `ready = 1` with the
register file at `k`. -/
inductive SubEngine (σ : Type) where
  | uninit
  | ready (schedule : σ)
  deriving DecidableEq, Repr

/-! ### The command port -/

/-- The `STATUS` names (30_encoding.md R66). -/
inductive Status where
  | ok
  | wrongLength
  | unsupportedType
  | invalidSize
  | notReady
  | illegalCommand
  deriving DecidableEq, Repr

/-- A command as the host issues it: the command word and the operand arrays presented with it (30_encoding.md R60,
20_memory.md R40). The `KEY` port is as wide as the longest key `KLEN` can name and the `DIN` port as the longer block.
The command's operand `KEY` is the first `KLEN` bytes and its operand `DIN` the first `N` bytes. No command reads a
port byte past its operand. -/
structure Request where
  word : Word
  key  : Vector Byte 255
  din  : Vector Byte 16
  deriving DecidableEq, Repr

/-- The response of a command (30_encoding.md R65). A field that is not present has no value: it is `none`. -/
structure Response where
  status : Status
  dout   : Option (List Byte)
  val    : Option Word
  deriving DecidableEq, Repr

/-- What the host does to an instance: it issues a command, or resets it (70_reset_and_hazards.md R230). -/
inductive HostEvent where
  | command (r : Request)
  | reset
  deriving DecidableEq, Repr

/-! ### The state -/

/-- One KBTE instance. `variant` is fixed when the instance is made (10_state.md R28). `tdes` and `serpent` are the
whole architectural state (10_state.md R20): each holds its ready flag and its schedule register file. `issued` and
`responses` are the host's side of the command port and no state of the engine: what the host has issued and the engine
has not yet taken, oldest first (20_memory.md R50 (a)), and the responses delivered, oldest first. -/
structure State where
  variant   : SerpentVariant
  tdes      : SubEngine TdesSchedule
  serpent   : SubEngine SerpentSchedule
  issued    : List HostEvent
  responses : List Response
  deriving DecidableEq, Repr

/-- `X.ready`, 1 bit (10_state.md R20, R25). -/
def SubEngine.readyBit {σ : Type} : SubEngine σ → BitVec 1
  | .uninit => 0
  | .ready _ => 1

/-- The schedule words, where the register file holds a value (10_state.md R32). -/
def SubEngine.schedule {σ : Type} : SubEngine σ → Option σ
  | .uninit => none
  | .ready k => some k

/-! ### Stops -/

/-- Why a step stops. The spec gives the engine no stop: every command ends with a response
(70_reset_and_hazards.md R239), and errors are statuses. -/
inductive Fault where
  /-- Raised by a meaning applied to a state in which no command stands at the head of `issued`: the operands and the
  place of the response do not exist. `step` never does this. Safe: the model stops where the hardware has nothing to
  run. -/
  | noCommand
  deriving DecidableEq, Repr

/-- Why an instruction has no meaning. -/
inductive Refusal where
  /-- Raised by `exec`'s arm of an instruction that is not modelled yet. No arm raises it. Safe: a refusal proves
  nothing about the hardware. -/
  | notModelled (mnemonic : String)
  deriving DecidableEq, Repr

/-! ### Reset -/

/-- An instance of variant `v` right after reset: both sub-engines `Uninit` (70_reset_and_hazards.md R230, 10_state.md
R32), waiting for its first command (70_reset_and_hazards.md R232). -/
def State.resetOf (v : SerpentVariant) : State where
  variant := v
  tdes := .uninit
  serpent := .uninit
  issued := []
  responses := []

/-- The default instance right after reset (00_scope.md R7: `SERPENT_VARIANT` is `none` by default). -/
def State.reset : State := State.resetOf .none

end Sys2Proof.Machine
end

