-- ==== Sys2Proof/Machine/Ops.lean ====
section
/-! DEFINITION. The named operations every meaning is written over: the word primitives of 00_scope.md R12, the
permutation primitive of R11, the writes of the two schedule register files, and the ways a command ends, among them the
one shared operation by which it ends with an error (60_exceptions.md R203, R211). -/

namespace Sys2Proof.Machine

/-- The outcome of one step of this machine. -/
abbrev Result := Host.Outcome State Fault Refusal

/-! ### Word primitives (00_scope.md R12) -/

/-- `rotl(a, s)`: 32-bit left rotation, `1 <= s <= 31`. -/
def rotl (a : Word) (s : Nat) : Word := (a <<< s) ||| (a >>> (32 - s))

/-- `rotr(a, s)`: 32-bit right rotation, `rotl(a, 32 - s)`. -/
def rotr (a : Word) (s : Nat) : Word := rotl a (32 - s)

/-- `rotl28(a, s)`: 28-bit left rotation. -/
def rotl28 (a : BitVec 28) (s : Nat) : BitVec 28 := (a <<< s) ||| (a >>> (28 - s))

/-- Bit `b` as a value of width `m`. -/
def bitAt (m : Nat) (b : Bool) : BitVec m := (BitVec.ofBool b).setWidth m

/-- The word whose bit `j` is `f j`, for the low `n` bit positions. -/
def ofBits (f : Nat → Bool) : Nat → Word
  | 0 => 0
  | n + 1 => ofBits f n ||| (bitAt 32 (f n) <<< n)

/-! ### FIPS numbering and `Perm` (00_scope.md R10, R11) -/

/-- FIPS position `p` of an `n`-bit value: position 1 is its most significant bit, so position `p` is the integer bit
`v[n-p]` (00_scope.md R10). -/
def fips {n : Nat} (v : BitVec n) (p : Nat) : Bool := v.getLsbD (n - p)

/-- `Perm(T, n, v)`: the `m`-bit value whose FIPS position `k` is FIPS position `T[k]` of `v`, for a table of `m`
entries (00_scope.md R11). The bits enter from position 1 on, each moving the earlier ones one place up. -/
def perm (T : List Nat) {n : Nat} (m : Nat) (v : BitVec n) : BitVec m :=
  T.foldl (fun acc p => (acc <<< 1) ||| bitAt m (fips v p)) 0

/-! ### How a command ends -/

/-- The command at the head of `issued`, if one stands there. -/
def State.request? (s : State) : Option Request :=
  match s.issued with
  | .command r :: _ => some r
  | _ => none

/-- Runs `body` with the command at the head of `issued` (00_scope.md R14: a command word plus its operands goes in). -/
def withRequest (s : State) (body : Request → Result) : Result :=
  match s.request? with
  | some r => body r
  | none => .fault .noCommand

/-- Delivers one response: the command is taken from `issued` and its response appended (00_scope.md R14, 30_encoding.md
R65). -/
def State.deliver (s : State) (resp : Response) : State :=
  { s with issued := s.issued.tail, responses := s.responses ++ [resp] }

/-- A response that has only a status (30_encoding.md R65). -/
def Response.bare (st : Status) : Response := ⟨st, none, none⟩

/-- A response `-> OK dout=…` (30_encoding.md R65). -/
def Response.block (dout : List Byte) : Response := ⟨.ok, some dout, none⟩

/-- A response `-> OK val=…` (30_encoding.md R65). -/
def Response.scalar (val : Word) : Response := ⟨.ok, none, some val⟩

/-- The command ends with a status other than `OK`: `raise KeyError::X` and `refuse X` of the pseudocode. The response is
`STATUS = X` with no `DOUT` and no `VAL`, and no architectural state is written (60_exceptions.md R203, R207, 30_encoding.md
R68). This is all of "trap entry" (60_exceptions.md R211). There is no return from it: after any response the engine is
ready for its next command (60_exceptions.md R212). -/
def raise (st : Status) (s : State) : Result := .next (s.deliver (.bare st))

/-- The command completes with status `OK` and nothing else in its response (`STATUS <- OK`). -/
def completeBare (s : State) : Result := .next (s.deliver (.bare .ok))

/-- The command completes with `STATUS = OK` and the block `dout`. -/
def completeBlock (dout : List Byte) (s : State) : Result := .next (s.deliver (.block dout))

/-- The command completes with `STATUS = OK` and the scalar `val`. -/
def completeScalar (val : Word) (s : State) : Result := .next (s.deliver (.scalar val))

/-! ### Writes of architectural state -/

/-- `TDES.KS[i][n] <- k[i][n]` for all `i`, `n` and `TDES.ready <- 1`, one atomic write (40_tdes_keyschedule.md R88). -/
def State.setTdes (s : State) (k : TdesSchedule) : State := { s with tdes := .ready k }

/-- `SERPENT.K[n] <- k[n]` for all `n` and `SERPENT.ready <- 1`, one atomic write (42_serpent_keyschedule.md R138). -/
def State.setSerpent (s : State) (k : SerpentSchedule) : State := { s with serpent := .ready k }

/-- A reset by the host: both sub-engines become `Uninit` and their schedule words lose their values
(70_reset_and_hazards.md R230, R231). `SERPENT_VARIANT` stays (70_reset_and_hazards.md R232). A reset gives no response. -/
def State.takeReset (s : State) : State :=
  { s with tdes := .uninit, serpent := .uninit, issued := s.issued.tail }

end Sys2Proof.Machine
end

