-- ==== Sys2Proof/Machine/Flags.lean ====
section
/-! DEFINITION. The engine has no condition codes (10_state.md R33). What it computes instead is the `STATUS` of a
response: its codes (30_encoding.md R66) and the checks at the head of a command, in the order of 60_exceptions.md R209. -/

namespace Sys2Proof.Machine

/-- The `STATUS` codes; 6 to 15 are reserved and never produced (30_encoding.md R66). -/
def Status.code : Status → BitVec 4
  | .ok => 0
  | .wrongLength => 1
  | .unsupportedType => 2
  | .invalidSize => 3
  | .notReady => 4
  | .illegalCommand => 5

/-- The checks of `TDES.MAKE_SCHEDULE`: the type before the length, exactly 24 bytes (40_tdes_keyschedule.md R88). -/
def tdesKeyStatus (ktype : KeyType) (klen : Nat) : Status :=
  if ktype = .other then .unsupportedType
  else if klen ≠ 24 then .wrongLength
  else .ok

/-- `KLEN` is in `[1, 32]` and a multiple of 4 (42_serpent_keyschedule.md R139). -/
def serpentSizeOk (klen : Nat) : Bool := decide (1 ≤ klen) && decide (klen ≤ 32) && decide (klen % 4 = 0)

/-- The checks of `SERPENT.MAKE_SCHEDULE`: the type, then the general size, then the fixed variant
(42_serpent_keyschedule.md R138, R140). -/
def serpentKeyStatus (variant : SerpentVariant) (ktype : KeyType) (klen : Nat) : Status :=
  if ktype = .other then .unsupportedType
  else if serpentSizeOk klen = false then .invalidSize
  else match variant.keyLength with
    | none => .ok
    | some n => if klen ≠ n then .wrongLength else .ok

/-- The check of `TDES.EFFECTIVE_STRENGTH` (44_contract_ops.md R184). -/
def strengthStatus (klen : Nat) : Status := if klen ≠ 24 then .wrongLength else .ok

end Sys2Proof.Machine
end

