-- ==== Sys2Proof/Machine/Operands.lean ====
section
/-! DEFINITION. The operand and result arrays of a command and their byte orders (20_memory.md), and the host's side of
presenting a command (30_encoding.md R70). -/

namespace Sys2Proof.Machine

/-! ### Operand arrays (20_memory.md R40, R41) -/

/-- `KEY[0..KLEN-1]`: the first `KLEN` bytes of the key port (20_memory.md R40). -/
def Request.keyOperand (r : Request) (klen : Nat) : List Byte := r.key.toList.take klen

/-- `DIN[0..N-1]`: the first `N` bytes of the block port, `N` the block size of the sub-engine (20_memory.md R40). -/
def Request.dinOperand (r : Request) (n : Nat) : List Byte := r.din.toList.take n

/-- `MemRead(A, a, n)`: the bytes `A[a], …, A[a+n-1]` (20_memory.md R41). -/
def memRead (A : List Byte) (a n : Nat) : List Byte := (A.drop a).take n

/-! ### Byte orders (00_scope.md R13, 20_memory.md R42 to R45) -/

/-- `be64(B) = B[0] ‖ B[1] ‖ … ‖ B[7]`, byte 0 most significant (00_scope.md R13). -/
def be64 (B : List Byte) : BitVec 64 := B.foldl (fun acc b => (acc <<< 8) ||| b.setWidth 64) 0

/-- The eight bytes of a 64-bit result, big-endian: `DOUT[b] = out[63-8b : 56-8b]` (20_memory.md R42). -/
def bytesBe (v : BitVec 64) : List Byte := (List.range 8).map fun b => v.extractLsb' (56 - 8 * b) 8

/-- `le32(B, a) = B[a+3] ‖ B[a+2] ‖ B[a+1] ‖ B[a]`, byte `a` least significant (00_scope.md R13). -/
def le32 (B : List Byte) (a : Nat) : Word :=
  (memRead B a 4).foldr (fun b acc => (acc <<< 8) ||| b.setWidth 32) 0

/-- The four bytes of a word, little-endian: byte `b` is `d[8b+7 : 8b]` (20_memory.md R44). -/
def bytesLe (d : Word) : List Byte := (List.range 4).map fun b => d.extractLsb' (8 * b) 8

/-! ### Presenting a command (30_encoding.md R70) -/

/-- A byte sequence on a port `n` bytes wide, first byte at index 0. The port bytes past the sequence are zero here, and
no command reads them. -/
def onPort (n : Nat) (bytes : List Byte) : Vector Byte n :=
  ⟨((bytes ++ List.replicate n 0).take n).toArray, by simp⟩

/-- The request of a command word with the operand arrays `key` and `din`. -/
def Request.ofWord (w : Word) (key din : List Byte) : Request := ⟨w, onPort 255 key, onPort 16 din⟩

/-- The request of a command with the operand arrays `key` and `din`. -/
def Request.present (i : Instr) (key din : List Byte) : Request := .ofWord (encode i) key din

/-- `TDES.MAKE_SCHEDULE key=… [dir=…] [ktype=…]`: `KLEN` is the number of bytes written after `key=`, `dir` defaults to
`enc` and `ktype` to `raw` (30_encoding.md R70). -/
def Request.tdesMakeSchedule (key : List Byte) (dir : Direction := .enc) (ktype : KeyType := .raw) : Request :=
  .present (.tdesMakeSchedule dir ktype key.length) key []

/-- `SERPENT.MAKE_SCHEDULE key=… [dir=…] [ktype=…]` (30_encoding.md R70). -/
def Request.serpentMakeSchedule (key : List Byte) (dir : Direction := .enc) (ktype : KeyType := .raw) : Request :=
  .present (.serpentMakeSchedule dir ktype key.length) key []

/-- `TDES.EFFECTIVE_STRENGTH key=…` (30_encoding.md R70). -/
def Request.tdesEffectiveStrength (key : List Byte) : Request :=
  .present (.tdesEffectiveStrength key.length) key []

/-- `TDES.ENCRYPT_BLOCK din=…` (30_encoding.md R70). -/
def Request.tdesEncryptBlock (din : List Byte) : Request := .present .tdesEncryptBlock [] din

/-- `TDES.DECRYPT_BLOCK din=…` (30_encoding.md R70). -/
def Request.tdesDecryptBlock (din : List Byte) : Request := .present .tdesDecryptBlock [] din

/-- `SERPENT.ENCRYPT_BLOCK din=…` (30_encoding.md R70). -/
def Request.serpentEncryptBlock (din : List Byte) : Request := .present .serpentEncryptBlock [] din

/-- `SERPENT.DECRYPT_BLOCK din=…` (30_encoding.md R70). -/
def Request.serpentDecryptBlock (din : List Byte) : Request := .present .serpentDecryptBlock [] din

/-- `TDES.BLOCK_SIZE` (30_encoding.md R70). -/
def Request.tdesBlockSize : Request := .present .tdesBlockSize [] []

/-- `SERPENT.BLOCK_SIZE` (30_encoding.md R70). -/
def Request.serpentBlockSize : Request := .present .serpentBlockSize [] []

end Sys2Proof.Machine
end

