-- ==== Sys2Proof/Machine/Contract.lean ====
section
/-! DEFINITION. The contract commands that are neither key schedule nor block transform: `BLOCK_SIZE` of both
sub-engines and `TDES.EFFECTIVE_STRENGTH` (44_contract_ops.md). -/

namespace Sys2Proof.Machine

/-- `TDES.BLOCK_SIZE`: `VAL <- 8` (44_contract_ops.md R181). -/
def execTdesBlockSize (s : State) : Result := withRequest s fun _ => completeScalar 8 s

/-- `SERPENT.BLOCK_SIZE`: `VAL <- 16` (44_contract_ops.md R182). -/
def execSerpentBlockSize (s : State) : Result := withRequest s fun _ => completeScalar 16 s

/-- 56 if the three 8-byte thirds are pairwise equal, else 112: all 64 bits of each third count
(44_contract_ops.md R184). -/
def effectiveStrength (key : List Byte) : Word :=
  let A := memRead key 0 8
  let B := memRead key 8 8
  let C := memRead key 16 8
  if A = B ∧ B = C ∧ A = C then 56 else 112

/-- `TDES.EFFECTIVE_STRENGTH` (44_contract_ops.md R184). It looks at the key operand, never at `TDES.KS`. -/
def execTdesEffectiveStrength (klen : Nat) (s : State) : Result :=
  withRequest s fun r =>
    match strengthStatus klen with
    | .ok => completeScalar (effectiveStrength (r.keyOperand klen)) s
    | err => raise err s

end Sys2Proof.Machine
end

