-- ==== Sys2Proof/Machine/SerpentTables.lean ====
section
/-! DEFINITION. The constant tables of the Serpent engine: the eight S-boxes (42_serpent_keyschedule.md R132), their
inverses (43_serpent_block.md R152), and `PHI` (42_serpent_keyschedule.md R136). -/

namespace Sys2Proof.Machine

/-- A 4-bit to 4-bit table, entry `n` at index `n` (42_serpent_keyschedule.md R131). -/
abbrev SBox := Vector (BitVec 4) 16

/-- `PHI` (42_serpent_keyschedule.md R136). -/
def phi : Word := 0x9E3779B9

/-- `S0` (42_serpent_keyschedule.md R132). -/
def serpentS0 : SBox := #v[3, 8, 15, 1, 10, 6, 5, 11, 14, 13, 4, 2, 7, 0, 9, 12]
/-- `S1` (42_serpent_keyschedule.md R132). -/
def serpentS1 : SBox := #v[15, 12, 2, 7, 9, 0, 5, 10, 1, 11, 14, 8, 6, 13, 3, 4]
/-- `S2` (42_serpent_keyschedule.md R132). -/
def serpentS2 : SBox := #v[8, 6, 7, 9, 3, 12, 10, 15, 13, 1, 14, 4, 0, 11, 5, 2]
/-- `S3` (42_serpent_keyschedule.md R132). -/
def serpentS3 : SBox := #v[0, 15, 11, 8, 12, 9, 6, 3, 13, 1, 2, 4, 10, 7, 5, 14]
/-- `S4` (42_serpent_keyschedule.md R132). -/
def serpentS4 : SBox := #v[1, 15, 8, 3, 12, 0, 11, 6, 2, 5, 4, 10, 9, 14, 7, 13]
/-- `S5` (42_serpent_keyschedule.md R132). -/
def serpentS5 : SBox := #v[15, 5, 2, 11, 4, 10, 9, 12, 0, 3, 14, 8, 13, 6, 7, 1]
/-- `S6` (42_serpent_keyschedule.md R132). -/
def serpentS6 : SBox := #v[7, 2, 12, 5, 8, 4, 6, 11, 14, 9, 1, 15, 13, 3, 10, 0]
/-- `S7` (42_serpent_keyschedule.md R132). -/
def serpentS7 : SBox := #v[1, 13, 15, 0, 14, 8, 2, 11, 7, 4, 12, 10, 9, 3, 5, 6]

/-- `S0 .. S7` (42_serpent_keyschedule.md R132). -/
def forwardBoxes : Vector SBox 8 :=
  #v[serpentS0, serpentS1, serpentS2, serpentS3, serpentS4, serpentS5, serpentS6, serpentS7]

/-- `S_i` (42_serpent_keyschedule.md R132). -/
def forwardBox (i : Fin 8) : SBox := forwardBoxes[i.val]

/-- `SI0` (43_serpent_block.md R152). -/
def serpentSI0 : SBox := #v[13, 3, 11, 0, 10, 6, 5, 12, 1, 14, 4, 7, 15, 9, 8, 2]
/-- `SI1` (43_serpent_block.md R152). -/
def serpentSI1 : SBox := #v[5, 8, 2, 14, 15, 6, 12, 3, 11, 4, 7, 9, 1, 13, 10, 0]
/-- `SI2` (43_serpent_block.md R152). -/
def serpentSI2 : SBox := #v[12, 9, 15, 4, 11, 14, 1, 2, 0, 3, 6, 13, 5, 8, 10, 7]
/-- `SI3` (43_serpent_block.md R152). -/
def serpentSI3 : SBox := #v[0, 9, 10, 7, 11, 14, 6, 13, 3, 5, 12, 2, 4, 8, 15, 1]
/-- `SI4` (43_serpent_block.md R152). -/
def serpentSI4 : SBox := #v[5, 0, 8, 3, 10, 9, 7, 14, 2, 12, 11, 6, 4, 15, 13, 1]
/-- `SI5` (43_serpent_block.md R152). -/
def serpentSI5 : SBox := #v[8, 15, 2, 9, 4, 1, 13, 14, 11, 6, 5, 3, 7, 12, 10, 0]
/-- `SI6` (43_serpent_block.md R152). -/
def serpentSI6 : SBox := #v[15, 10, 1, 13, 5, 3, 6, 0, 4, 9, 14, 7, 2, 12, 8, 11]
/-- `SI7` (43_serpent_block.md R152). -/
def serpentSI7 : SBox := #v[3, 0, 6, 13, 9, 14, 15, 8, 5, 12, 11, 7, 10, 1, 4, 2]

/-- `SI0 .. SI7` (43_serpent_block.md R152). -/
def inverseBoxes : Vector SBox 8 :=
  #v[serpentSI0, serpentSI1, serpentSI2, serpentSI3, serpentSI4, serpentSI5, serpentSI6, serpentSI7]

/-- `SI_i` (43_serpent_block.md R152). -/
def inverseBox (i : Fin 8) : SBox := inverseBoxes[i.val]

end Sys2Proof.Machine
end

