-- ==== Sys2Proof/Machine/SerpentSbox.lean ====
section
/-! DEFINITION. The four-word Serpent state and the bitsliced S-box primitive (42_serpent_keyschedule.md section 1). -/

namespace Sys2Proof.Machine

/-- Four 32-bit words: `(x0, x1, x2, x3)` of an S-box, `(d0, d1, d2, d3)` of a block (42_serpent_keyschedule.md R131,
43_serpent_block.md R150). -/
structure Quad where
  d0 : Word
  d1 : Word
  d2 : Word
  d3 : Word
  deriving DecidableEq, Repr

/-- Word by word XOR of two four-word values. -/
def Quad.xor (x y : Quad) : Quad := ⟨x.d0 ^^^ y.d0, x.d1 ^^^ y.d1, x.d2 ^^^ y.d2, x.d3 ^^^ y.d3⟩

/-- The nibble at bit position `j`, `x0` giving its least significant bit (42_serpent_keyschedule.md R131). -/
def Quad.nibble (x : Quad) (j : Nat) : BitVec 4 :=
  BitVec.ofBool (x.d3.getLsbD j) ++ BitVec.ofBool (x.d2.getLsbD j) ++ BitVec.ofBool (x.d1.getLsbD j) ++
    BitVec.ofBool (x.d0.getLsbD j)

/-- `T[n]` (42_serpent_keyschedule.md R131). -/
def SBox.at (T : SBox) (n : BitVec 4) : BitVec 4 := T[n.toNat]'(n.isLt)

/-- Word `y_k` of the S-box output: bit `j` is bit `k` of `T[n]`, `n` the nibble at position `j`
(42_serpent_keyschedule.md R131). -/
def sboxWord (T : SBox) (x : Quad) (k : Nat) : Word := ofBits (fun j => (SBox.at T (x.nibble j)).getLsbD k) 32

/-- `Sbox(T, (x0, x1, x2, x3))` (42_serpent_keyschedule.md R131). -/
def sbox (T : SBox) (x : Quad) : Quad := ⟨sboxWord T x 0, sboxWord T x 1, sboxWord T x 2, sboxWord T x 3⟩

end Sys2Proof.Machine
end

