-- ==== Sys2Proof/Machine/SerpentBlock.lean ====
section
/-! DEFINITION. The Serpent block transform and the commands `SERPENT.ENCRYPT_BLOCK` and `SERPENT.DECRYPT_BLOCK`
(43_serpent_block.md). -/

namespace Sys2Proof.Machine

/-! ### Loading, storing and key mixing (43_serpent_block.md section 1) -/

/-- `d_i = le32(DIN, 4i)` (43_serpent_block.md R150, 20_memory.md R44). -/
def loadQuad (din : List Byte) : Quad := ⟨le32 din 0, le32 din 4, le32 din 8, le32 din 12⟩

/-- `DOUT[4i+b] = d_i[8b+7:8b]` (43_serpent_block.md R150, 20_memory.md R44). -/
def storeQuad (x : Quad) : List Byte := bytesLe x.d0 ++ bytesLe x.d1 ++ bytesLe x.d2 ++ bytesLe x.d3

/-- Group `g` of the schedule, `K[4g .. 4g+3]` (10_state.md R23). -/
def keyGroup (k : SerpentSchedule) (g : Fin 33) : Quad :=
  ⟨k[4 * g.val]'(by omega), k[4 * g.val + 1]'(by omega), k[4 * g.val + 2]'(by omega), k[4 * g.val + 3]'(by omega)⟩

/-- `AddKey(g)` (43_serpent_block.md R151). -/
def addKey (k : SerpentSchedule) (g : Fin 33) (x : Quad) : Quad := x.xor (keyGroup k g)

/-! ### The linear transform (43_serpent_block.md section 3) -/

/-- `LT`: the ten assignments in order, each with the values the earlier ones left (43_serpent_block.md R154). -/
def lt (x : Quad) : Quad :=
  let d0 := rotl x.d0 13
  let d2 := rotl x.d2 3
  let d1 := x.d1 ^^^ d0 ^^^ d2
  let d3 := x.d3 ^^^ d2 ^^^ (d0 <<< 3)
  let d1 := rotl d1 1
  let d3 := rotl d3 7
  let d0 := d0 ^^^ d1 ^^^ d3
  let d2 := d2 ^^^ d3 ^^^ (d1 <<< 7)
  let d0 := rotl d0 5
  let d2 := rotl d2 22
  ⟨d0, d1, d2, d3⟩

/-- `ILT`: the ten assignments undone in reverse order (43_serpent_block.md R155). -/
def ilt (x : Quad) : Quad :=
  let d2 := rotr x.d2 22
  let d0 := rotr x.d0 5
  let d2 := d2 ^^^ x.d3 ^^^ (x.d1 <<< 7)
  let d0 := d0 ^^^ x.d1 ^^^ x.d3
  let d3 := rotr x.d3 7
  let d1 := rotr x.d1 1
  let d3 := d3 ^^^ d2 ^^^ (d0 <<< 3)
  let d1 := d1 ^^^ d0 ^^^ d2
  let d2 := rotr d2 3
  let d0 := rotr d0 13
  ⟨d0, d1, d2, d3⟩

/-! ### Rounds (43_serpent_block.md section 4) -/

/-- Encryption round `r` (43_serpent_block.md R156). -/
def encryptRound (k : SerpentSchedule) (x : Quad) (r : Nat) : Quad :=
  let y := sbox (forwardBox (Fin.ofNat 8 r)) (addKey k (Fin.ofNat 33 r) x)
  if r < 31 then lt y else y

/-- Decryption round `r` (43_serpent_block.md R157). -/
def decryptRound (k : SerpentSchedule) (x : Quad) (r : Nat) : Quad :=
  let y := if r < 31 then ilt x else x
  addKey k (Fin.ofNat 33 r) (sbox (inverseBox (Fin.ofNat 8 r)) y)

/-- The 32 encryption rounds and the final whitening `AddKey(32)` (43_serpent_block.md R160). -/
def serpentEncryptQuad (k : SerpentSchedule) (x : Quad) : Quad :=
  addKey k 32 ((List.range 32).foldl (encryptRound k) x)

/-- `AddKey(32)` and the 32 decryption rounds, 31 down to 0 (43_serpent_block.md R161). -/
def serpentDecryptQuad (k : SerpentSchedule) (x : Quad) : Quad :=
  (List.range 32).reverse.foldl (decryptRound k) (addKey k 32 x)

/-! ### The commands (43_serpent_block.md section 5) -/

/-- The transform of `SERPENT.ENCRYPT_BLOCK` on bytes (43_serpent_block.md R160). -/
def serpentEncrypt (k : SerpentSchedule) (din : List Byte) : List Byte :=
  storeQuad (serpentEncryptQuad k (loadQuad (memRead din 0 16)))

/-- The transform of `SERPENT.DECRYPT_BLOCK` on bytes (43_serpent_block.md R161). -/
def serpentDecrypt (k : SerpentSchedule) (din : List Byte) : List Byte :=
  storeQuad (serpentDecryptQuad k (loadQuad (memRead din 0 16)))

/-- `SERPENT.ENCRYPT_BLOCK` (43_serpent_block.md R160). On an `Uninit` sub-engine it is refused (60_exceptions.md R207). -/
def execSerpentEncryptBlock (s : State) : Result :=
  withRequest s fun r =>
    match s.serpent with
    | .uninit => raise .notReady s
    | .ready k => completeBlock (serpentEncrypt k (r.dinOperand 16)) s

/-- `SERPENT.DECRYPT_BLOCK` (43_serpent_block.md R161). On an `Uninit` sub-engine it is refused (60_exceptions.md R207). -/
def execSerpentDecryptBlock (s : State) : Result :=
  withRequest s fun r =>
    match s.serpent with
    | .uninit => raise .notReady s
    | .ready k => completeBlock (serpentDecrypt k (r.dinOperand 16)) s

end Sys2Proof.Machine
end

