-- ==== Sys2Proof/Machine/SerpentSchedule.lean ====
section
/-! DEFINITION. The Serpent key schedule and the command `SERPENT.MAKE_SCHEDULE` (42_serpent_keyschedule.md). -/

namespace Sys2Proof.Machine

/-- `p_j`, `j = 0..7`: the key words, then the marker word 1 if the key is shorter than eight words, then zeros
(42_serpent_keyschedule.md R134, R135). -/
def paddedWord (key : List Byte) (j : Nat) : Word :=
  let m := key.length / 4
  if j < m then le32 key (4 * j) else if j = m then 1 else 0

/-- The eight words before `w_i`, oldest first: `w8 = w_(i-8)`, …, `w1 = w_(i-1)` (42_serpent_keyschedule.md R136). -/
structure Window where
  w8 : Word
  w7 : Word
  w6 : Word
  w5 : Word
  w4 : Word
  w3 : Word
  w2 : Word
  w1 : Word
  deriving DecidableEq, Repr

/-- `w_(-8) .. w_(-1)`: the padded key (42_serpent_keyschedule.md R136, 90_conflicts.md C2). -/
def keyWindow (key : List Byte) : Window :=
  ⟨paddedWord key 0, paddedWord key 1, paddedWord key 2, paddedWord key 3,
   paddedWord key 4, paddedWord key 5, paddedWord key 6, paddedWord key 7⟩

/-- `w_i = rotl(w_(i-8) ^ w_(i-5) ^ w_(i-3) ^ w_(i-1) ^ PHI ^ i, 11)` (42_serpent_keyschedule.md R136). -/
def nextPreKey (w : Window) (i : Nat) : Word :=
  rotl (w.w8 ^^^ w.w5 ^^^ w.w3 ^^^ w.w1 ^^^ phi ^^^ BitVec.ofNat 32 i) 11

/-- The window one place on. -/
def Window.push (w : Window) (x : Word) : Window := ⟨w.w7, w.w6, w.w5, w.w4, w.w3, w.w2, w.w1, x⟩

/-- `n` pre-keys from `w_i` on (42_serpent_keyschedule.md R136). -/
def preKeysFrom : Nat → Nat → Window → List Word
  | 0, _, _ => []
  | n + 1, i, w => nextPreKey w i :: preKeysFrom n (i + 1) (w.push (nextPreKey w i))

/-- The 132 pre-keys `w_0 .. w_131` (42_serpent_keyschedule.md R136). -/
def preKeys (key : List Byte) : List Word := preKeysFrom 132 0 (keyWindow key)

/-- `o(g) = (3 - g) mod 8`, the S-box of group `g` (42_serpent_keyschedule.md R137): subtraction of `Fin 8` is modulo 8. -/
def groupBox (g : Nat) : Fin 8 := 3 - Fin.ofNat 8 g

/-- The S-box step from group `g` on: each four pre-keys give four round-key words (42_serpent_keyschedule.md R137). -/
def boxGroups : Nat → List Word → List Word
  | g, a :: b :: c :: d :: rest =>
    let y := sbox (forwardBox (groupBox g)) ⟨a, b, c, d⟩
    y.d0 :: y.d1 :: y.d2 :: y.d3 :: boxGroups (g + 1) rest
  | _, _ => []

/-- The 132 words of the schedule, in order (42_serpent_keyschedule.md R137). -/
def serpentWords (key : List Byte) : List Word := boxGroups 0 (preKeys key)

theorem preKeysFrom_length : ∀ (n i : Nat) (w : Window), (preKeysFrom n i w).length = n
  | 0, _, _ => rfl
  | n + 1, i, w => by simp [preKeysFrom, preKeysFrom_length n]

theorem boxGroups_length : ∀ (n g : Nat) (ws : List Word), ws.length = 4 * n → (boxGroups g ws).length = 4 * n
  | 0, _, [], _ => rfl
  | n + 1, g, a :: b :: c :: d :: rest, h => by
    have := boxGroups_length n (g + 1) rest (by simp at h; omega)
    simp [boxGroups, this]; omega
  | n + 1, _, [], h | n + 1, _, [_], h | n + 1, _, [_, _], h | n + 1, _, [_, _, _], h => by simp at h <;> omega

theorem serpentWords_length (key : List Byte) : (serpentWords key).length = 132 :=
  boxGroups_length 33 0 (preKeys key) (preKeysFrom_length 132 0 (keyWindow key))

/-- `SerpentSchedule(KEY[0..KLEN-1])` (42_serpent_keyschedule.md R137). -/
@[irreducible] def serpentSchedule (key : List Byte) : SerpentSchedule := ⟨(serpentWords key).toArray, serpentWords_length key⟩

/-- `SERPENT.MAKE_SCHEDULE` (42_serpent_keyschedule.md R138). `DIR` is not read (44_contract_ops.md R183). -/
def execSerpentMakeSchedule (_dir : Direction) (ktype : KeyType) (klen : Nat) (s : State) : Result :=
  withRequest s fun r =>
    match serpentKeyStatus s.variant ktype klen with
    | .ok => completeBare (s.setSerpent (serpentSchedule (memRead (r.keyOperand klen) 0 klen)))
    | err => raise err s

end Sys2Proof.Machine
end

