-- ==== Sys2Proof/Machine/TdesBlock.lean ====
section
/-! DEFINITION. The Triple-DES block transform and the commands `TDES.ENCRYPT_BLOCK` and `TDES.DECRYPT_BLOCK`
(41_tdes_block.md). -/

namespace Sys2Proof.Machine

/-! ### The round function (41_tdes_block.md section 3) -/

/-- `Sk[row][col]` of a 6-bit index, `row` its outer two bits and `col` its inner four (41_tdes_block.md R107).
`k = 0` is `S1`. -/
def desSBoxOut (k : Fin 8) (x : BitVec 6) : BitVec 4 :=
  let row : BitVec 2 := x.extractLsb' 5 1 ++ x.extractLsb' 0 1
  let col : BitVec 4 := x.extractLsb' 1 4
  (desSBoxes[k.val][row.toNat]'(row.isLt))[col.toNat]'(col.isLt)

/-- The merged table entry `SPk[x] = Perm(PT, 32, Sk[row][col] << (32 - 4k))` (41_tdes_block.md R107). The S-box of index
`k` here is the spec's `k+1`. -/
def sp (k : Fin 8) (x : BitVec 6) : Word := perm pt 32 ((desSBoxOut k x).setWidth 32 <<< (32 - 4 * (k.val + 1)))

/-- The six bits of a 24-bit half from bit `lo` up: `(half >> lo) & 0x3f` (41_tdes_block.md R106). -/
def sixBits (half : BitVec 24) (lo : Nat) : BitVec 6 := half.extractLsb' lo 6

/-- The combination of the eight lookups (41_tdes_block.md R106). -/
def substitute (left right : BitVec 24) : Word :=
  sp 0 (sixBits left 18) ||| sp 1 (sixBits left 12) ||| sp 2 (sixBits left 6) ||| sp 3 (sixBits left 0) |||
  sp 4 (sixBits right 18) ||| sp 5 (sixBits right 12) ||| sp 6 (sixBits right 6) ||| sp 7 (sixBits right 0)

/-- `E(R)`, 48 bits (41_tdes_block.md R104). -/
def expand (r : Word) : BitVec 48 := perm et 48 r

/-- `left = E_left ^ ks[2j][23:0]` (41_tdes_block.md R104, R105). -/
def leftHalf (r : Word) (ks : KeySet) (j : Fin 16) : BitVec 24 :=
  (expand r).extractLsb' 24 24 ^^^ (ks[2 * j.val]'(by omega)).extractLsb' 0 24

/-- `right = E_right ^ ks[2j+1][23:0]` (41_tdes_block.md R104, R105). -/
def rightHalf (r : Word) (ks : KeySet) (j : Fin 16) : BitVec 24 :=
  (expand r).extractLsb' 0 24 ^^^ (ks[2 * j.val + 1]'(by omega)).extractLsb' 0 24

/-- `f(R, ks, j)` (41_tdes_block.md R104 to R106). -/
def feistel (r : Word) (ks : KeySet) (j : Fin 16) : Word := substitute (leftHalf r ks j) (rightHalf r ks j)

/-! ### The passes (41_tdes_block.md section 4) -/

/-- The two halves of the 64-bit state (41_tdes_block.md R103). -/
structure Halves where
  l : Word
  r : Word
  deriving DecidableEq, Repr

/-- `L = s[63:32]; R = s[31:0]` (41_tdes_block.md R103). -/
def Halves.split (s : BitVec 64) : Halves := ⟨s.extractLsb' 32 32, s.extractLsb' 0 32⟩

/-- `L ‖ R` (41_tdes_block.md R109). -/
def Halves.join (h : Halves) : BitVec 64 := h.l ++ h.r

/-- A round with exchange: `(L, R) <- (R, L ^ f(R, ks, j))` (41_tdes_block.md R109). -/
def roundSwap (ks : KeySet) (h : Halves) (j : Fin 16) : Halves := ⟨h.r, h.l ^^^ feistel h.r ks j⟩

/-- The last round executed, without exchange: `(L, R) <- (L ^ f(R, ks, j), R)` (41_tdes_block.md R109). -/
def roundLast (ks : KeySet) (h : Halves) (j : Fin 16) : Halves := ⟨h.l ^^^ feistel h.r ks j, h.r⟩

/-- Round indices 0, 1, …, 14 (41_tdes_block.md R110). -/
def ascending : List (Fin 16) := (List.range 15).map (Fin.ofNat 16)

/-- Round indices 15, 14, …, 1 (41_tdes_block.md R111). -/
def descending : List (Fin 16) := (List.range 15).map fun n => Fin.ofNat 16 (15 - n)

/-- `encryptDES(s, ks)` (41_tdes_block.md R110). -/
def encryptDES (s : BitVec 64) (ks : KeySet) : BitVec 64 :=
  (roundLast ks (ascending.foldl (roundSwap ks) (.split s)) 15).join

/-- `decryptDES(s, ks)` (41_tdes_block.md R111). -/
def decryptDES (s : BitVec 64) (ks : KeySet) : BitVec 64 :=
  (roundLast ks (descending.foldl (roundSwap ks) (.split s)) 0).join

/-! ### The commands (41_tdes_block.md section 5) -/

/-- `IP(v)` (41_tdes_block.md R101). -/
def ip (v : BitVec 64) : BitVec 64 := perm ipt 64 v

/-- `FP(v)` (41_tdes_block.md R102). -/
def fp (v : BitVec 64) : BitVec 64 := perm fpt 64 v

/-- The 64-bit Triple-DES encryption: one `IP`, three passes encrypt-decrypt-encrypt, one `FP` (41_tdes_block.md R112). -/
def tdesEncrypt64 (k : TdesSchedule) (v : BitVec 64) : BitVec 64 :=
  fp (encryptDES (decryptDES (encryptDES (ip v) k[0]) k[1]) k[2])

/-- The 64-bit Triple-DES decryption: passes decrypt-encrypt-decrypt with the sets reversed (41_tdes_block.md R113). -/
def tdesDecrypt64 (k : TdesSchedule) (v : BitVec 64) : BitVec 64 :=
  fp (decryptDES (encryptDES (decryptDES (ip v) k[2]) k[1]) k[0])

/-- The transform of `TDES.ENCRYPT_BLOCK` on bytes, big-endian in and out (41_tdes_block.md R112, 20_memory.md R42). -/
def tdesEncrypt (k : TdesSchedule) (din : List Byte) : List Byte := bytesBe (tdesEncrypt64 k (be64 (memRead din 0 8)))

/-- The transform of `TDES.DECRYPT_BLOCK` on bytes (41_tdes_block.md R113, 20_memory.md R42). -/
def tdesDecrypt (k : TdesSchedule) (din : List Byte) : List Byte := bytesBe (tdesDecrypt64 k (be64 (memRead din 0 8)))

/-- `TDES.ENCRYPT_BLOCK` (41_tdes_block.md R112). On an `Uninit` sub-engine it is refused (60_exceptions.md R207). -/
def execTdesEncryptBlock (s : State) : Result :=
  withRequest s fun r =>
    match s.tdes with
    | .uninit => raise .notReady s
    | .ready k => completeBlock (tdesEncrypt k (r.dinOperand 8)) s

/-- `TDES.DECRYPT_BLOCK` (41_tdes_block.md R113). On an `Uninit` sub-engine it is refused (60_exceptions.md R207). -/
def execTdesDecryptBlock (s : State) : Result :=
  withRequest s fun r =>
    match s.tdes with
    | .uninit => raise .notReady s
    | .ready k => completeBlock (tdesDecrypt k (r.dinOperand 8)) s

end Sys2Proof.Machine
end

