-- ==== Sys2Proof/Machine/TdesSchedule.lean ====
section
/-! DEFINITION. The Triple-DES key schedule and the command `TDES.MAKE_SCHEDULE` (40_tdes_keyschedule.md). -/

namespace Sys2Proof.Machine

/-- Third `i` of the key, bytes `KEY[8i .. 8i+7]` read big-endian (40_tdes_keyschedule.md R80, 20_memory.md R43). -/
def keyThird (key : List Byte) (i : Nat) : BitVec 64 := be64 (memRead key (8 * i) 8)

/-- `C0`: the first half Permuted Choice 1 selects (40_tdes_keyschedule.md R81). -/
def startC (third : BitVec 64) : BitVec 28 := perm pc1C 28 third

/-- `D0`: the second half Permuted Choice 1 selects (40_tdes_keyschedule.md R81). -/
def startD (third : BitVec 64) : BitVec 28 := perm pc1D 28 third

/-- The round key of two rotated halves, `Perm(PC2, 56, C_j ‖ D_j)` (40_tdes_keyschedule.md R85). -/
def roundKey (c d : BitVec 28) : BitVec 48 := perm pc2 48 (c ++ d)

/-- The round keys, in order: each round rotates both halves by its amount, cumulatively and before Permuted Choice 2
(40_tdes_keyschedule.md R83, R85). -/
def roundKeys : List Nat → BitVec 28 → BitVec 28 → List (BitVec 48)
  | [], _, _ => []
  | v :: vs, c, d => roundKey (rotl28 c v) (rotl28 d v) :: roundKeys vs (rotl28 c v) (rotl28 d v)

/-- A round key as two words: its FIPS positions 1..24, then 25..48, each in bits 23:0 (40_tdes_keyschedule.md R86). -/
def halfWords (k : BitVec 48) : List Word := [(k.extractLsb' 24 24).setWidth 32, (k.extractLsb' 0 24).setWidth 32]

/-- The 32 words of one set, words `2j` and `2j+1` from `K_j` (40_tdes_keyschedule.md R86). -/
def keySetWords (third : BitVec 64) : List Word :=
  (roundKeys rotations (startC third) (startD third)).flatMap halfWords

theorem keySetWords_length (third : BitVec 64) : (keySetWords third).length = 32 := rfl

/-- `KS[i]` of a third (40_tdes_keyschedule.md R87). No other third enters it (R80). -/
@[irreducible] def keySet (third : BitVec 64) : KeySet := ⟨(keySetWords third).toArray, keySetWords_length third⟩

/-- The three sets of `TDES.KS`, set `i` belonging to key third `i` (10_state.md R21). -/
def threeSets (ks0 ks1 ks2 : KeySet) : TdesSchedule := #v[ks0, ks1, ks2]

/-- `TdesSchedule(KEY[0..23])` (40_tdes_keyschedule.md R87). -/
def tdesSchedule (key : List Byte) : TdesSchedule :=
  threeSets (keySet (keyThird key 0)) (keySet (keyThird key 1)) (keySet (keyThird key 2))

/-- `TDES.MAKE_SCHEDULE` (40_tdes_keyschedule.md R88). `DIR` is not read (44_contract_ops.md R183). -/
def execTdesMakeSchedule (_dir : Direction) (ktype : KeyType) (klen : Nat) (s : State) : Result :=
  withRequest s fun r =>
    match tdesKeyStatus ktype klen with
    | .ok => completeBare (s.setTdes (tdesSchedule (memRead (r.keyOperand klen) 0 24)))
    | err => raise err s

end Sys2Proof.Machine
end

