-- ==== Sys2Proof/Machine/Dispatch.lean ====
section
/-! DEFINITION. The meaning of every command: one arm per constructor of `Instr` (30_encoding.md R63). -/

namespace Sys2Proof.Machine

def exec (i : Instr) (s : State) : Host.Outcome State Fault Refusal :=
  match i with
  -- 44_contract_ops.md R181
  | .tdesBlockSize => Sys2Proof.Machine.execTdesBlockSize s
  -- 40_tdes_keyschedule.md R88
  | .tdesMakeSchedule dir ktype klen => Sys2Proof.Machine.execTdesMakeSchedule dir ktype klen s
  -- 41_tdes_block.md R112
  | .tdesEncryptBlock => Sys2Proof.Machine.execTdesEncryptBlock s
  -- 41_tdes_block.md R113
  | .tdesDecryptBlock => Sys2Proof.Machine.execTdesDecryptBlock s
  -- 44_contract_ops.md R184
  | .tdesEffectiveStrength klen => Sys2Proof.Machine.execTdesEffectiveStrength klen s
  -- 44_contract_ops.md R182
  | .serpentBlockSize => Sys2Proof.Machine.execSerpentBlockSize s
  -- 42_serpent_keyschedule.md R138
  | .serpentMakeSchedule dir ktype klen => Sys2Proof.Machine.execSerpentMakeSchedule dir ktype klen s
  -- 43_serpent_block.md R160
  | .serpentEncryptBlock => Sys2Proof.Machine.execSerpentEncryptBlock s
  -- 43_serpent_block.md R161
  | .serpentDecryptBlock => Sys2Proof.Machine.execSerpentDecryptBlock s

end Sys2Proof.Machine
end

