-- ==== Sys2Proof/Machine/Step.lean ====
section
/-! DEFINITION. One step: the engine takes the oldest event the host has issued (20_memory.md R50 (a)). -/

namespace Sys2Proof.Machine

/-- One step of an instance. With nothing issued it waits (70_reset_and_hazards.md R232). A reset puts both sub-engines in
`Uninit` (70_reset_and_hazards.md R230). A command word that decodes runs its command, and an illegal one ends with
`IllegalCommand` (30_encoding.md R68). -/
def step (s : State) : Host.Outcome State Fault Refusal :=
  match s.issued with
  | [] => .next s
  | .reset :: _ => .next s.takeReset
  | .command r :: _ =>
    match decode r.word with
    | .ok i => exec i s
    | .error _ => raise .illegalCommand s

/-- `s` with the command of a row's word issued ahead of everything else, with operand ports of zero bytes, so that the
very next step runs it. -/
def State.withFetchWord (s : State) (nbits w : Nat) : State :=
  { s with issued := .command (.ofWord (tableWord nbits w) [] []) :: s.issued }

end Sys2Proof.Machine
end

