-- ==== Sys2Proof/Machine/SerpentCircuits.lean ====
section
/-! DEFINITION. The word-level Boolean formulas of the Serpent S-boxes, as algebraic normal forms: forward
(42_serpent_keyschedule.md R133) and inverse (43_serpent_block.md R153). They are a circuit form of the tables: the
commands use the table form (42_serpent_keyschedule.md R131), which is the normative one, and the two are equal. -/

namespace Sys2Proof.Machine

/-- `1` of the formulas, `0xFFFFFFFF` (42_serpent_keyschedule.md R133). -/
def one : Word := 0xFFFFFFFF

/-- The formulas of `S0` (42_serpent_keyschedule.md R133). -/
def anfS0 : Quad → Quad
  | ⟨a, b, c, d⟩ =>
    ⟨one ^^^ a ^^^ (a &&& b) ^^^ c ^^^ (a &&& c) ^^^ (b &&& c) ^^^ (a &&& b &&& c) ^^^ d ^^^ (a &&& c &&& d) ^^^ (b &&& c &&& d),
     one ^^^ a ^^^ (a &&& c) ^^^ (b &&& c) ^^^ (a &&& b &&& c) ^^^ (b &&& d) ^^^ (a &&& c &&& d) ^^^ (b &&& c &&& d),
     b ^^^ (a &&& b) ^^^ (a &&& c) ^^^ (a &&& b &&& c) ^^^ d ^^^ (b &&& d) ^^^ (b &&& c &&& d),
     a ^^^ b ^^^ c ^^^ d ^^^ (a &&& d)⟩

/-- The formulas of `S1` (42_serpent_keyschedule.md R133). -/
def anfS1 : Quad → Quad
  | ⟨a, b, c, d⟩ =>
    ⟨one ^^^ a ^^^ b ^^^ (b &&& c) ^^^ (a &&& d) ^^^ (c &&& d) ^^^ (a &&& c &&& d) ^^^ (b &&& c &&& d),
     one ^^^ a ^^^ (a &&& b) ^^^ c ^^^ (a &&& c) ^^^ d ^^^ (b &&& d) ^^^ (a &&& b &&& d) ^^^ (a &&& c &&& d) ^^^ (b &&& c &&& d),
     one ^^^ b ^^^ (a &&& b) ^^^ c ^^^ d,
     one ^^^ b ^^^ (a &&& c) ^^^ d ^^^ (a &&& d) ^^^ (a &&& b &&& d) ^^^ (a &&& c &&& d) ^^^ (b &&& c &&& d)⟩

/-- The formulas of `S2` (42_serpent_keyschedule.md R133). -/
def anfS2 : Quad → Quad
  | ⟨a, b, c, d⟩ =>
    ⟨b ^^^ c ^^^ (a &&& c) ^^^ d,
     a ^^^ b ^^^ c ^^^ (b &&& c) ^^^ (a &&& b &&& c) ^^^ (a &&& d) ^^^ (a &&& b &&& d) ^^^ (c &&& d) ^^^ (a &&& c &&& d),
     a ^^^ b ^^^ (b &&& c) ^^^ d ^^^ (b &&& d) ^^^ (a &&& b &&& d) ^^^ (c &&& d) ^^^ (a &&& c &&& d),
     one ^^^ a ^^^ b ^^^ c ^^^ (a &&& b &&& c) ^^^ (b &&& d)⟩

/-- The formulas of `S3` (42_serpent_keyschedule.md R133). -/
def anfS3 : Quad → Quad
  | ⟨a, b, c, d⟩ =>
    ⟨a ^^^ b ^^^ (b &&& c) ^^^ d ^^^ (a &&& d) ^^^ (c &&& d) ^^^ (a &&& c &&& d) ^^^ (b &&& c &&& d),
     a ^^^ b ^^^ (a &&& c) ^^^ (a &&& d) ^^^ (a &&& b &&& d) ^^^ (c &&& d) ^^^ (a &&& c &&& d),
     a ^^^ (a &&& b) ^^^ c ^^^ (a &&& b &&& c) ^^^ d ^^^ (b &&& d) ^^^ (a &&& b &&& d),
     a ^^^ b ^^^ (a &&& b) ^^^ c ^^^ (a &&& c) ^^^ (a &&& b &&& c) ^^^ d ^^^ (c &&& d) ^^^ (a &&& c &&& d)⟩

/-- The formulas of `S4` (42_serpent_keyschedule.md R133). -/
def anfS4 : Quad → Quad
  | ⟨a, b, c, d⟩ =>
    ⟨one ^^^ b ^^^ (a &&& b) ^^^ c ^^^ d ^^^ (a &&& d) ^^^ (b &&& d),
     a ^^^ (a &&& c) ^^^ (b &&& c) ^^^ d ^^^ (b &&& d) ^^^ (c &&& d) ^^^ (a &&& c &&& d) ^^^ (b &&& c &&& d),
     a ^^^ (a &&& b) ^^^ c ^^^ (b &&& c) ^^^ (a &&& b &&& c) ^^^ (b &&& d) ^^^ (a &&& b &&& d) ^^^ (c &&& d) ^^^ (b &&& c &&& d),
     a ^^^ b ^^^ c ^^^ (b &&& c) ^^^ (a &&& d) ^^^ (b &&& d) ^^^ (a &&& b &&& d)⟩

/-- The formulas of `S5` (42_serpent_keyschedule.md R133). -/
def anfS5 : Quad → Quad
  | ⟨a, b, c, d⟩ =>
    ⟨one ^^^ b ^^^ (a &&& b) ^^^ c ^^^ d ^^^ (a &&& d) ^^^ (b &&& d),
     one ^^^ a ^^^ (a &&& b) ^^^ c ^^^ d ^^^ (b &&& d) ^^^ (a &&& b &&& d) ^^^ (c &&& d),
     one ^^^ b ^^^ (a &&& c) ^^^ d ^^^ (a &&& b &&& d) ^^^ (c &&& d) ^^^ (a &&& c &&& d) ^^^ (b &&& c &&& d),
     one ^^^ a ^^^ b ^^^ c ^^^ (a &&& b &&& c) ^^^ d ^^^ (a &&& d) ^^^ (a &&& c &&& d)⟩

/-- The formulas of `S6` (42_serpent_keyschedule.md R133). -/
def anfS6 : Quad → Quad
  | ⟨a, b, c, d⟩ =>
    ⟨one ^^^ a ^^^ b ^^^ c ^^^ (a &&& c) ^^^ (b &&& c) ^^^ (a &&& b &&& c) ^^^ d ^^^ (a &&& b &&& d) ^^^ (b &&& c &&& d),
     one ^^^ b ^^^ c ^^^ (a &&& d),
     one ^^^ a ^^^ (a &&& b) ^^^ c ^^^ (b &&& c) ^^^ (a &&& b &&& c) ^^^ (b &&& d) ^^^ (a &&& b &&& d) ^^^ (c &&& d) ^^^ (b &&& c &&& d),
     b ^^^ (a &&& b) ^^^ c ^^^ (a &&& c) ^^^ (a &&& b &&& c) ^^^ d ^^^ (c &&& d) ^^^ (b &&& c &&& d)⟩

/-- The formulas of `S7` (42_serpent_keyschedule.md R133). -/
def anfS7 : Quad → Quad
  | ⟨a, b, c, d⟩ =>
    ⟨one ^^^ (a &&& b) ^^^ c ^^^ (a &&& d) ^^^ (b &&& d) ^^^ (c &&& d) ^^^ (a &&& c &&& d) ^^^ (b &&& c &&& d),
     b ^^^ (a &&& b) ^^^ c ^^^ (a &&& c) ^^^ (b &&& c) ^^^ d ^^^ (a &&& d) ^^^ (a &&& b &&& d) ^^^ (a &&& c &&& d),
     a ^^^ b ^^^ c ^^^ (a &&& b &&& c) ^^^ d ^^^ (a &&& d) ^^^ (b &&& d) ^^^ (a &&& b &&& d) ^^^ (b &&& c &&& d),
     a ^^^ b ^^^ c ^^^ (a &&& c) ^^^ (a &&& b &&& c) ^^^ (a &&& d)⟩

/-- The formulas of `S0 .. S7` (42_serpent_keyschedule.md R133). -/
def forwardCircuits : Vector (Quad → Quad) 8 :=
  #v[anfS0, anfS1, anfS2, anfS3, anfS4, anfS5, anfS6, anfS7]

/-- The formulas of `SI0` (43_serpent_block.md R153). -/
def anfSI0 : Quad → Quad
  | ⟨a, b, c, d⟩ =>
    ⟨one ^^^ (a &&& b) ^^^ c ^^^ (b &&& c) ^^^ (a &&& d) ^^^ (b &&& d) ^^^ (a &&& b &&& d) ^^^ (c &&& d) ^^^ (a &&& c &&& d) ^^^ (b &&& c &&& d),
     a ^^^ b ^^^ c ^^^ (a &&& c) ^^^ (b &&& d) ^^^ (a &&& c &&& d) ^^^ (b &&& c &&& d),
     one ^^^ a ^^^ b ^^^ (a &&& b) ^^^ c ^^^ d,
     one ^^^ a ^^^ (b &&& c) ^^^ d ^^^ (a &&& b &&& d) ^^^ (c &&& d) ^^^ (a &&& c &&& d) ^^^ (b &&& c &&& d)⟩

/-- The formulas of `SI1` (43_serpent_block.md R153). -/
def anfSI1 : Quad → Quad
  | ⟨a, b, c, d⟩ =>
    ⟨one ^^^ a ^^^ b ^^^ (a &&& b) ^^^ (a &&& b &&& c) ^^^ (b &&& d) ^^^ (a &&& c &&& d) ^^^ (b &&& c &&& d),
     b ^^^ c ^^^ (a &&& b &&& c) ^^^ d ^^^ (a &&& d) ^^^ (b &&& d) ^^^ (a &&& c &&& d) ^^^ (b &&& c &&& d),
     one ^^^ a ^^^ b ^^^ (a &&& c) ^^^ (b &&& c) ^^^ (a &&& b &&& c) ^^^ d ^^^ (a &&& c &&& d),
     a ^^^ c ^^^ d ^^^ (b &&& d)⟩

/-- The formulas of `SI2` (43_serpent_block.md R153). -/
def anfSI2 : Quad → Quad
  | ⟨a, b, c, d⟩ =>
    ⟨a ^^^ b ^^^ c ^^^ (b &&& c) ^^^ (b &&& d),
     b ^^^ (a &&& b) ^^^ c ^^^ (a &&& d) ^^^ (a &&& b &&& d) ^^^ (c &&& d) ^^^ (a &&& c &&& d),
     one ^^^ a ^^^ (a &&& b) ^^^ c ^^^ d ^^^ (a &&& d) ^^^ (b &&& d) ^^^ (a &&& b &&& d) ^^^ (a &&& c &&& d),
     one ^^^ (a &&& b) ^^^ (b &&& c) ^^^ (a &&& b &&& c) ^^^ d ^^^ (a &&& c &&& d)⟩

/-- The formulas of `SI3` (43_serpent_block.md R153). -/
def anfSI3 : Quad → Quad
  | ⟨a, b, c, d⟩ =>
    ⟨a ^^^ c ^^^ (b &&& c) ^^^ d ^^^ (a &&& d) ^^^ (b &&& d) ^^^ (b &&& c &&& d),
     b ^^^ c ^^^ (b &&& c) ^^^ (a &&& b &&& c) ^^^ d ^^^ (a &&& d) ^^^ (a &&& c &&& d) ^^^ (b &&& c &&& d),
     (a &&& b) ^^^ (a &&& c) ^^^ (b &&& c) ^^^ (a &&& d) ^^^ (b &&& d) ^^^ (a &&& b &&& d) ^^^ (c &&& d) ^^^ (a &&& c &&& d),
     a ^^^ b ^^^ c ^^^ (a &&& c) ^^^ (a &&& b &&& c) ^^^ (a &&& d) ^^^ (a &&& b &&& d) ^^^ (c &&& d)⟩

/-- The formulas of `SI4` (43_serpent_block.md R153). -/
def anfSI4 : Quad → Quad
  | ⟨a, b, c, d⟩ =>
    ⟨one ^^^ a ^^^ b ^^^ c ^^^ d ^^^ (a &&& d) ^^^ (a &&& b &&& d) ^^^ (c &&& d) ^^^ (a &&& c &&& d),
     (a &&& b) ^^^ c ^^^ (a &&& c) ^^^ d ^^^ (a &&& d) ^^^ (a &&& c &&& d),
     one ^^^ a ^^^ b ^^^ (a &&& b) ^^^ c ^^^ (a &&& c) ^^^ (a &&& b &&& c) ^^^ d ^^^ (b &&& d) ^^^ (a &&& b &&& d),
     b ^^^ (a &&& b) ^^^ c ^^^ (a &&& d) ^^^ (a &&& b &&& d) ^^^ (c &&& d)⟩

/-- The formulas of `SI5` (43_serpent_block.md R153). -/
def anfSI5 : Quad → Quad
  | ⟨a, b, c, d⟩ =>
    ⟨a ^^^ (b &&& c) ^^^ d ^^^ (a &&& b &&& d),
     a ^^^ b ^^^ (a &&& c) ^^^ (b &&& c) ^^^ (a &&& b &&& c) ^^^ d ^^^ (a &&& d) ^^^ (a &&& b &&& d),
     a ^^^ (a &&& b) ^^^ c ^^^ (b &&& d) ^^^ (a &&& b &&& d) ^^^ (a &&& c &&& d),
     one ^^^ b ^^^ (a &&& b) ^^^ c ^^^ (a &&& b &&& c) ^^^ (a &&& d)⟩

/-- The formulas of `SI6` (43_serpent_block.md R153). -/
def anfSI6 : Quad → Quad
  | ⟨a, b, c, d⟩ =>
    ⟨one ^^^ a ^^^ (a &&& b) ^^^ (a &&& c) ^^^ (b &&& c) ^^^ (a &&& b &&& c) ^^^ d ^^^ (a &&& b &&& d) ^^^ (b &&& c &&& d),
     one ^^^ b ^^^ c ^^^ (a &&& c) ^^^ d,
     one ^^^ a ^^^ b ^^^ (b &&& c) ^^^ (b &&& d) ^^^ (a &&& b &&& d) ^^^ (c &&& d) ^^^ (b &&& c &&& d),
     one ^^^ b ^^^ (a &&& b) ^^^ c ^^^ (b &&& c) ^^^ (a &&& b &&& c) ^^^ d ^^^ (a &&& d) ^^^ (a &&& b &&& d) ^^^ (c &&& d) ^^^ (b &&& c &&& d)⟩

/-- The formulas of `SI7` (43_serpent_block.md R153). -/
def anfSI7 : Quad → Quad
  | ⟨a, b, c, d⟩ =>
    ⟨one ^^^ a ^^^ b ^^^ (b &&& c) ^^^ (b &&& d) ^^^ (a &&& b &&& d) ^^^ (c &&& d) ^^^ (b &&& c &&& d),
     one ^^^ a ^^^ c ^^^ (b &&& c) ^^^ d ^^^ (a &&& d) ^^^ (b &&& d) ^^^ (a &&& c &&& d) ^^^ (b &&& c &&& d),
     b ^^^ (a &&& c) ^^^ d ^^^ (a &&& b &&& d) ^^^ (c &&& d) ^^^ (a &&& c &&& d),
     (a &&& b) ^^^ c ^^^ (a &&& b &&& c) ^^^ (a &&& d) ^^^ (b &&& d) ^^^ (a &&& b &&& d)⟩

/-- The formulas of `SI0 .. SI7` (43_serpent_block.md R153). -/
def inverseCircuits : Vector (Quad → Quad) 8 :=
  #v[anfSI0, anfSI1, anfSI2, anfSI3, anfSI4, anfSI5, anfSI6, anfSI7]

end Sys2Proof.Machine
end

