-- ==== Sys2Proof/Safety.lean ====
section
/-! DEFINITION. What claims about the engine are stated in: the classes of commands, a safe step, and the invariant of
the machine. -/

namespace Sys2Proof

/-- The commands addressed to TDES, those with `ENG = 0` (30_encoding.md R61). -/
def Instr.isTdes : Instr → Bool
  | .tdesBlockSize => true
  | .tdesMakeSchedule _ _ _ => true
  | .tdesEncryptBlock => true
  | .tdesDecryptBlock => true
  | .tdesEffectiveStrength _ => true
  | .serpentBlockSize => false
  | .serpentMakeSchedule _ _ _ => false
  | .serpentEncryptBlock => false
  | .serpentDecryptBlock => false

/-- The block commands, whose response can hold `DOUT` (30_encoding.md R65). -/
def Instr.isBlock : Instr → Bool
  | .tdesBlockSize => false
  | .tdesMakeSchedule _ _ _ => false
  | .tdesEncryptBlock => true
  | .tdesDecryptBlock => true
  | .tdesEffectiveStrength _ => false
  | .serpentBlockSize => false
  | .serpentMakeSchedule _ _ _ => false
  | .serpentEncryptBlock => true
  | .serpentDecryptBlock => true

/-- The commands whose response can hold `VAL`: `BLOCK_SIZE` and `EFFECTIVE_STRENGTH` (30_encoding.md R65). -/
def Instr.isScalar : Instr → Bool
  | .tdesBlockSize => true
  | .tdesMakeSchedule _ _ _ => false
  | .tdesEncryptBlock => false
  | .tdesDecryptBlock => false
  | .tdesEffectiveStrength _ => true
  | .serpentBlockSize => true
  | .serpentMakeSchedule _ _ _ => false
  | .serpentEncryptBlock => false
  | .serpentDecryptBlock => false

/-- How many bytes of `KEY` a command has: `KLEN` where it has the field, else none (20_memory.md R48, 30_encoding.md
R60). -/
def Instr.keyBytes : Instr → Nat
  | .tdesBlockSize => 0
  | .tdesMakeSchedule _ _ klen => klen
  | .tdesEncryptBlock => 0
  | .tdesDecryptBlock => 0
  | .tdesEffectiveStrength klen => klen
  | .serpentBlockSize => 0
  | .serpentMakeSchedule _ _ klen => klen
  | .serpentEncryptBlock => 0
  | .serpentDecryptBlock => 0

/-- How many bytes of `DIN` a command has: the block size for a block command, else none (20_memory.md R48). -/
def Instr.dinBytes : Instr → Nat
  | .tdesBlockSize => 0
  | .tdesMakeSchedule _ _ _ => 0
  | .tdesEncryptBlock => 8
  | .tdesDecryptBlock => 8
  | .tdesEffectiveStrength _ => 0
  | .serpentBlockSize => 0
  | .serpentMakeSchedule _ _ _ => 0
  | .serpentEncryptBlock => 16
  | .serpentDecryptBlock => 16

namespace Machine

/-- A step is safe when it answers a next state: no fault and no refusal (70_reset_and_hazards.md R239). -/
def SafeStep (s : State) : Prop := ∃ t, step s = .next t

/-- `k` steps from `s`, stopping at the first fault or refusal. -/
def runSteps (k : Nat) (s : State) : Result := Host.Core.run core k s

/-- The schedule is the one `TdesSchedule` computes from some 24 key bytes (10_state.md R22). -/
def TdesDerived (k : TdesSchedule) : Prop := ∃ key : List Byte, key.length = 24 ∧ k = tdesSchedule key

/-- The schedule is the one `SerpentSchedule` computes from some key an instance of variant `v` accepts
(42_serpent_keyschedule.md R138). -/
def SerpentDerived (v : SerpentVariant) (k : SerpentSchedule) : Prop :=
  ∃ key : List Byte, serpentKeyStatus v .raw key.length = .ok ∧ k = serpentSchedule key

/-- A response has `DOUT` or `VAL` only with `STATUS = OK`, never both, and a `DOUT` of a block's size
(30_encoding.md R65). -/
structure Response.Proper (r : Response) : Prop where
  onlyWhenOk : r.status ≠ .ok → r.dout = none ∧ r.val = none
  notBoth    : r.dout = none ∨ r.val = none
  blockSize  : ∀ b, r.dout = some b → b.length = 8 ∨ b.length = 16

/-- The invariant of one instance: a ready sub-engine holds a schedule derived from one key (10_state.md R22), and every
response delivered is proper (30_encoding.md R65). -/
structure State.Inv (s : State) : Prop where
  tdes      : ∀ k, s.tdes = .ready k → TdesDerived k
  serpent   : ∀ k, s.serpent = .ready k → SerpentDerived s.variant k
  responses : ∀ r ∈ s.responses, r.Proper

end Machine

end Sys2Proof
end

