-- ==== Sys2Proof/Certificates/Slice0/Obligations.lean ====
section
/-! DEFINITION. The statements for the provers, from the spec's numbered rules: encoding, the step, each command's
meaning and frame, the whole-machine rules, and the laws of the two ciphers. The fields `issued` and `responses`, which many
statements mention, are the model's picture of the command port and no state of the engine (log entry 2): that `rest` is
what remains issued, and that a response is appended, say that the command is taken and that its one response comes out
(00_scope.md R14). -/

open Sys2Proof Sys2Proof.Machine

/-! ### Encoding (30_encoding.md) -/

/-- Decoding an encoded well-formed command gives it back, with every field at every value (R61, R62, R63). -/
def Obligations.DecodeOfEncodeIsTheCommand : Prop :=
  ∀ i : Instr, i.wellFormed = true → decode (encode i) = .ok i

/-- A word that decodes is the encoding of the command it decodes to, and that command is well-formed: no bit of a legal
word is dropped (R61, R63, R67). -/
def Obligations.EncodeOfDecodeIsTheWord : Prop :=
  ∀ (c : Word) (i : Instr), decode c = .ok i → i.wellFormed = true ∧ encode i = c

/-- R64: every 32-bit word either selects exactly one row of the command map, and decodes, or selects none, and is
illegal. -/
def Obligations.EveryWordSelectsOneRowOrIsIllegal : Prop :=
  ∀ c : Word,
    ((commandMap.filter (·.selects c)).length = 1 ∧ ∃ i, decode c = .ok i) ∨
    ((commandMap.filter (·.selects c)).length = 0 ∧ ∃ e, decode c = .error e)

/-- R67: a word is illegal exactly when a reserved bit is set, `OP` is reserved, or a field is not zero in a command that
must have it zero. -/
def Obligations.IllegalWordsAreThoseWithReservedFields : Prop :=
  ∀ c : Word, (∃ e, decode c = .error e) ↔
    (c.extractLsb' 6 2 ≠ 0 ∨ c.extractLsb' 16 16 ≠ 0 ∨
      5 ≤ (c.extractLsb' 0 3).toNat ∨
      (c.extractLsb' 0 3 = 4 ∧ c.extractLsb' 3 1 = 1) ∨
      (c.extractLsb' 0 3 ≠ 1 ∧ (c.extractLsb' 4 1 ≠ 0 ∨ c.extractLsb' 5 1 ≠ 0)) ∨
      (c.extractLsb' 0 3 ≠ 1 ∧ c.extractLsb' 0 3 ≠ 4 ∧ c.extractLsb' 8 8 ≠ 0))

/-- R72 (the spec's own inference, from R61, R63 and R67): the worked command words, legal and illegal. -/
def Obligations.WorkedCommandWordsDecode : Prop :=
  decode 0x00001801 = .ok (.tdesMakeSchedule .enc .raw 24) ∧
  decode 0x00001811 = .ok (.tdesMakeSchedule .dec .raw 24) ∧
  decode 0x00001009 = .ok (.serpentMakeSchedule .enc .raw 16) ∧
  decode 0x00002009 = .ok (.serpentMakeSchedule .enc .raw 32) ∧
  decode 0x00002029 = .ok (.serpentMakeSchedule .enc .other 32) ∧
  decode 0x00001804 = .ok (.tdesEffectiveStrength 24) ∧
  decode 0x0000000B = .ok .serpentDecryptBlock ∧
  (∀ c ∈ [(0x0000000C : Word), 0x00000005, 0x00000102, 0x00000041, 0x00010000], ∃ e, decode c = .error e)

/-! ### The step (00_scope.md R14, 20_memory.md R50, 70_reset_and_hazards.md) -/

/-- The oldest issued command runs: where its word decodes, the step is the command's meaning. Nothing is added around it:
there is no program counter (R27). -/
def Obligations.StepRunsTheDecodedCommand : Prop :=
  ∀ (s : State) (r : Request) (rest : List HostEvent) (i : Instr),
    s.issued = .command r :: rest → decode r.word = .ok i → step s = exec i s

/-- R68: an illegal command word is answered `IllegalCommand` with no `DOUT` and no `VAL`, and no architectural state
changes. -/
def Obligations.IllegalWordIsRefused : Prop :=
  ∀ (s : State) (r : Request) (rest : List HostEvent) (e : Illegal),
    s.issued = .command r :: rest → decode r.word = .error e →
    step s = .next { s with issued := rest, responses := s.responses ++ [⟨.illegalCommand, none, none⟩] }

/-- A reset puts both sub-engines in `Uninit` and changes nothing else, and no other step brings a ready sub-engine back to
`Uninit` (R230, R232). That a reset is an event in issue order and has no response is the model's choice (log entry 6). -/
def Obligations.ResetIsTheOnlyWayBackToUninit : Prop :=
  (∀ (s : State) (rest : List HostEvent), s.issued = .reset :: rest →
    step s = .next { s with tdes := .uninit, serpent := .uninit, issued := rest }) ∧
  (∀ s t : State, step s = .next t →
    (s.tdes.readyBit = 1 ∧ t.tdes.readyBit = 0) ∨ (s.serpent.readyBit = 1 ∧ t.serpent.readyBit = 0) →
    ∃ rest, s.issued = .reset :: rest)

/-- After reset neither register file holds a value and both ready flags are 0 (R32), the parameter stands (R232), and the
engine waits: with nothing issued a step changes nothing. Waiting as a step is the model's reading (log entry 5). -/
def Obligations.ResetStateHoldsNoScheduleAndWaits : Prop :=
  (∀ v : SerpentVariant, (State.resetOf v).tdes.readyBit = 0 ∧ (State.resetOf v).serpent.readyBit = 0 ∧
    (State.resetOf v).tdes.schedule = none ∧ (State.resetOf v).serpent.schedule = none ∧
    (State.resetOf v).variant = v) ∧
  State.reset = State.resetOf .none ∧
  (∀ s : State, s.issued = [] → step s = .next s)

/-- R239: every command terminates with a response, in one step and from every state. -/
def Obligations.EveryCommandEndsWithOneResponse : Prop :=
  ∀ (s : State) (r : Request) (rest : List HostEvent), s.issued = .command r :: rest →
    ∃ t resp, step s = .next t ∧ t.issued = rest ∧ t.responses = s.responses ++ [resp]

/-- R65: `DOUT`, of block-size bytes, is present exactly when a block command ends with `OK`, and `VAL` exactly when
`BLOCK_SIZE` or `EFFECTIVE_STRENGTH` does. A command whose word is illegal has neither. -/
def Obligations.ResponseFieldsArePresentOnlyWithOk : Prop :=
  ∀ (s : State) (r : Request) (rest : List HostEvent), s.issued = .command r :: rest →
    ∃ t resp, step s = .next t ∧ t.responses = s.responses ++ [resp] ∧
      (resp.dout.isSome = true ↔ ∃ i, decode r.word = .ok i ∧ i.isBlock = true ∧ resp.status = .ok) ∧
      (resp.val.isSome = true ↔ ∃ i, decode r.word = .ok i ∧ i.isScalar = true ∧ resp.status = .ok) ∧
      (∀ i dout, decode r.word = .ok i → resp.dout = some dout → dout.length = if i.isTdes then 8 else 16)

/-- R209: the status of every command, in the order the checks have. Decoding comes first, then the type, then the length
(for Serpent the general size before the fixed variant), and `NotReady` arises only for the block commands. -/
def Obligations.StatusFollowsThePriorityOrder : Prop :=
  ∀ (s : State) (r : Request) (rest : List HostEvent), s.issued = .command r :: rest →
    ∃ t resp, step s = .next t ∧ t.responses = s.responses ++ [resp] ∧
      resp.status =
        match decode r.word with
        | .error _ => .illegalCommand
        | .ok (.tdesMakeSchedule _ ktype klen) =>
          if ktype = .other then .unsupportedType else if klen = 24 then .ok else .wrongLength
        | .ok (.serpentMakeSchedule _ ktype klen) =>
          if ktype = .other then .unsupportedType
          else if klen ∉ [4, 8, 12, 16, 20, 24, 28, 32] then .invalidSize
          else if s.variant.keyLength = none ∨ s.variant.keyLength = some klen then .ok
          else .wrongLength
        | .ok (.tdesEffectiveStrength klen) => if klen = 24 then .ok else .wrongLength
        | .ok .tdesEncryptBlock => if s.tdes.readyBit = 0 then .notReady else .ok
        | .ok .tdesDecryptBlock => if s.tdes.readyBit = 0 then .notReady else .ok
        | .ok .serpentEncryptBlock => if s.serpent.readyBit = 0 then .notReady else .ok
        | .ok .serpentDecryptBlock => if s.serpent.readyBit = 0 then .notReady else .ok
        | .ok .tdesBlockSize => .ok
        | .ok .serpentBlockSize => .ok

/-! ### The meaning of each command, with its frame: the whole next state is given -/

/-- R181: `TDES.BLOCK_SIZE` answers 8 in every state, ready or not, and writes nothing. -/
def Obligations.TdesBlockSizeAnswersEight : Prop :=
  decode 0x00000000 = .ok .tdesBlockSize ∧
  ∀ (s : State) (r : Request) (rest : List HostEvent), s.issued = .command r :: rest →
    exec .tdesBlockSize s = .next { s with issued := rest, responses := s.responses ++ [⟨.ok, none, some 8⟩] }

/-- R182: `SERPENT.BLOCK_SIZE` answers 16 in every state, ready or not and of every variant, and writes nothing. -/
def Obligations.SerpentBlockSizeAnswersSixteen : Prop :=
  decode 0x00000008 = .ok .serpentBlockSize ∧
  ∀ (s : State) (r : Request) (rest : List HostEvent), s.issued = .command r :: rest →
    exec .serpentBlockSize s = .next { s with issued := rest, responses := s.responses ++ [⟨.ok, none, some 16⟩] }

/-- R184: `TDES.EFFECTIVE_STRENGTH` on 24 key bytes answers 56 when its three thirds are the same bytes and 112 when not;
on any other length it raises `WrongLength`. It reads no state and writes none. -/
def Obligations.EffectiveStrengthComparesTheThreeThirds : Prop :=
  (∀ n : BitVec 8, decode (0x00000004 ||| (n.setWidth 32 <<< 8)) = .ok (.tdesEffectiveStrength n.toNat)) ∧
  ∀ (s : State) (r : Request) (rest : List HostEvent), s.issued = .command r :: rest →
    (∀ klen, klen ≠ 24 → exec (.tdesEffectiveStrength klen) s =
      .next { s with issued := rest, responses := s.responses ++ [⟨.wrongLength, none, none⟩] }) ∧
    (let K := r.key.toList
     let A := K.take 8
     let B := (K.drop 8).take 8
     let C := (K.drop 16).take 8
     (A = B ∧ B = C → exec (.tdesEffectiveStrength 24) s =
       .next { s with issued := rest, responses := s.responses ++ [⟨.ok, none, some 56⟩] }) ∧
     (¬ (A = B ∧ B = C) → exec (.tdesEffectiveStrength 24) s =
       .next { s with issued := rest, responses := s.responses ++ [⟨.ok, none, some 112⟩] }))

/-- R88: `TDES.MAKE_SCHEDULE` raises `UnsupportedType` for `KTYPE = 1` whatever the length, else `WrongLength` for a
length other than 24, and on neither writes state; on 24 raw key bytes it writes the schedule of those bytes and the ready
flag, together, from any state. -/
def Obligations.TdesMakeScheduleWritesTheSchedule : Prop :=
  (∀ (n : BitVec 8) (dir : Direction) (ktype : KeyType),
    decode (0x00000001 ||| (n.setWidth 32 <<< 8) ||| (ktype.bit.setWidth 32 <<< 5) ||| (dir.bit.setWidth 32 <<< 4)) =
      .ok (.tdesMakeSchedule dir ktype n.toNat)) ∧
  ∀ (s : State) (r : Request) (rest : List HostEvent) (dir : Direction), s.issued = .command r :: rest →
    (∀ klen, exec (.tdesMakeSchedule dir .other klen) s =
      .next { s with issued := rest, responses := s.responses ++ [⟨.unsupportedType, none, none⟩] }) ∧
    (∀ klen, klen ≠ 24 → exec (.tdesMakeSchedule dir .raw klen) s =
      .next { s with issued := rest, responses := s.responses ++ [⟨.wrongLength, none, none⟩] }) ∧
    exec (.tdesMakeSchedule dir .raw 24) s =
      .next { s with
        tdes := .ready (tdesSchedule (r.key.toList.take 24))
        issued := rest
        responses := s.responses ++ [⟨.ok, none, none⟩] }

/-- R138: `SERPENT.MAKE_SCHEDULE` raises `UnsupportedType`, `InvalidSize` or, on a fixed-variant instance, `WrongLength`,
in that order, and then writes no state; else it writes the schedule of its `KLEN` key bytes and the ready flag,
together, from any state. -/
def Obligations.SerpentMakeScheduleWritesTheSchedule : Prop :=
  (∀ (n : BitVec 8) (dir : Direction) (ktype : KeyType),
    decode (0x00000009 ||| (n.setWidth 32 <<< 8) ||| (ktype.bit.setWidth 32 <<< 5) ||| (dir.bit.setWidth 32 <<< 4)) =
      .ok (.serpentMakeSchedule dir ktype n.toNat)) ∧
  ∀ (s : State) (r : Request) (rest : List HostEvent) (dir : Direction), s.issued = .command r :: rest →
    (∀ klen, exec (.serpentMakeSchedule dir .other klen) s =
      .next { s with issued := rest, responses := s.responses ++ [⟨.unsupportedType, none, none⟩] }) ∧
    (∀ klen, klen < 1 ∨ klen > 32 ∨ klen % 4 ≠ 0 → exec (.serpentMakeSchedule dir .raw klen) s =
      .next { s with issued := rest, responses := s.responses ++ [⟨.invalidSize, none, none⟩] }) ∧
    (∀ klen n, 1 ≤ klen → klen ≤ 32 → klen % 4 = 0 → s.variant.keyLength = some n → klen ≠ n →
      exec (.serpentMakeSchedule dir .raw klen) s =
        .next { s with issued := rest, responses := s.responses ++ [⟨.wrongLength, none, none⟩] }) ∧
    (∀ klen, 1 ≤ klen → klen ≤ 32 → klen % 4 = 0 →
      s.variant.keyLength = none ∨ s.variant.keyLength = some klen →
      exec (.serpentMakeSchedule dir .raw klen) s =
        .next { s with
          serpent := .ready (serpentSchedule (r.key.toList.take klen))
          issued := rest
          responses := s.responses ++ [⟨.ok, none, none⟩] })

/-- R112: `TDES.ENCRYPT_BLOCK` on a ready sub-engine answers the block passed through `IP`, the passes
encrypt-decrypt-encrypt with `KS[0]`, `KS[1]`, `KS[2]`, and `FP`, big-endian in and out; on an `Uninit` one it is refused.
It writes no state. -/
def Obligations.TdesEncryptBlockAnswersTheCiphertext : Prop :=
  decode 0x00000002 = .ok .tdesEncryptBlock ∧
  ∀ (s : State) (r : Request) (rest : List HostEvent), s.issued = .command r :: rest →
    (s.tdes = .uninit → exec .tdesEncryptBlock s =
      .next { s with issued := rest, responses := s.responses ++ [⟨.notReady, none, none⟩] }) ∧
    (∀ k, s.tdes = .ready k →
      let o := fp (encryptDES (decryptDES (encryptDES (ip (be64 (r.din.toList.take 8))) k[0]) k[1]) k[2])
      exec .tdesEncryptBlock s = .next { s with
        issued := rest
        responses := s.responses ++ [⟨.ok, some ((List.range 8).map fun b => o.extractLsb' (56 - 8 * b) 8), none⟩] })

/-- R113: `TDES.DECRYPT_BLOCK`: the passes decrypt-encrypt-decrypt with `KS[2]`, `KS[1]`, `KS[0]`; on an `Uninit`
sub-engine it is refused. It writes no state. -/
def Obligations.TdesDecryptBlockAnswersThePlaintext : Prop :=
  decode 0x00000003 = .ok .tdesDecryptBlock ∧
  ∀ (s : State) (r : Request) (rest : List HostEvent), s.issued = .command r :: rest →
    (s.tdes = .uninit → exec .tdesDecryptBlock s =
      .next { s with issued := rest, responses := s.responses ++ [⟨.notReady, none, none⟩] }) ∧
    (∀ k, s.tdes = .ready k →
      let o := fp (decryptDES (encryptDES (decryptDES (ip (be64 (r.din.toList.take 8))) k[2]) k[1]) k[0])
      exec .tdesDecryptBlock s = .next { s with
        issued := rest
        responses := s.responses ++ [⟨.ok, some ((List.range 8).map fun b => o.extractLsb' (56 - 8 * b) 8), none⟩] })

/-- R160: `SERPENT.ENCRYPT_BLOCK` on a ready sub-engine: rounds 0 to 30 are key mixing, `S_(r mod 8)` and `LT`, round 31
is key mixing and `S_7`, then `AddKey(32)`; little-endian in and out. On an `Uninit` sub-engine it is refused. It writes no
state. -/
def Obligations.SerpentEncryptBlockAnswersTheCiphertext : Prop :=
  decode 0x0000000A = .ok .serpentEncryptBlock ∧
  ∀ (s : State) (r : Request) (rest : List HostEvent), s.issued = .command r :: rest →
    (s.serpent = .uninit → exec .serpentEncryptBlock s =
      .next { s with issued := rest, responses := s.responses ++ [⟨.notReady, none, none⟩] }) ∧
    (∀ k, s.serpent = .ready k →
      let d : Quad := ⟨le32 r.din.toList 0, le32 r.din.toList 4, le32 r.din.toList 8, le32 r.din.toList 12⟩
      let d := (List.range 31).foldl (fun d n => lt (sbox (forwardBox (Fin.ofNat 8 n)) (addKey k (Fin.ofNat 33 n) d))) d
      let d := addKey k 32 (sbox (forwardBox 7) (addKey k 31 d))
      exec .serpentEncryptBlock s = .next { s with
        issued := rest
        responses := s.responses ++ [⟨.ok, some ([d.d0, d.d1, d.d2, d.d3].flatMap bytesLe), none⟩] })

/-- R161: `SERPENT.DECRYPT_BLOCK` on a ready sub-engine: `AddKey(32)`, round 31 without `ILT`, then rounds 30 down to 0
with it. On an `Uninit` sub-engine it is refused. It writes no state. -/
def Obligations.SerpentDecryptBlockAnswersThePlaintext : Prop :=
  decode 0x0000000B = .ok .serpentDecryptBlock ∧
  ∀ (s : State) (r : Request) (rest : List HostEvent), s.issued = .command r :: rest →
    (s.serpent = .uninit → exec .serpentDecryptBlock s =
      .next { s with issued := rest, responses := s.responses ++ [⟨.notReady, none, none⟩] }) ∧
    (∀ k, s.serpent = .ready k →
      let d : Quad := ⟨le32 r.din.toList 0, le32 r.din.toList 4, le32 r.din.toList 8, le32 r.din.toList 12⟩
      let d := addKey k 31 (sbox (inverseBox 7) (addKey k 32 d))
      let d := (List.range 31).foldr (fun n d => addKey k (Fin.ofNat 33 n) (sbox (inverseBox (Fin.ofNat 8 n)) (ilt d))) d
      exec .serpentDecryptBlock s = .next { s with
        issued := rest
        responses := s.responses ++ [⟨.ok, some ([d.d0, d.d1, d.d2, d.d3].flatMap bytesLe), none⟩] })

/-- R207: a block command on a sub-engine with `ready = 0` answers `NotReady` with no `DOUT`, and no state changes,
whatever the state of the other sub-engine. -/
def Obligations.BlockCommandsAreRefusedWhileNotReady : Prop :=
  ∀ (s : State) (r : Request) (rest : List HostEvent) (i : Instr), s.issued = .command r :: rest → i.isBlock = true →
    (if i.isTdes then s.tdes.readyBit = 0 else s.serpent.readyBit = 0) →
    exec i s = .next { s with issued := rest, responses := s.responses ++ [⟨.notReady, none, none⟩] }

/-! ### Whole-machine rules -/

/-- R203: a command that ends with a status other than `OK` has no `DOUT` and no `VAL` and has written no architectural
state. -/
def Obligations.ErrorsWriteNoState : Prop :=
  ∀ (i : Instr) (s t : State) (resp : Response), exec i s = .next t → t.responses = s.responses ++ [resp] →
    resp.status ≠ .ok →
    resp = ⟨resp.status, none, none⟩ ∧ t = { s with issued := s.issued.tail, responses := s.responses ++ [resp] }

/-- R202: the status is not state. No command reads an earlier response; after an error the engine is as if the failed
command had never been issued; and the same failing command, issued again, gives the same error. -/
def Obligations.StatusIsNotState : Prop :=
  (∀ (s t : State) (h : List Response), step s = .next t →
    step { s with responses := h ++ s.responses } = .next { t with responses := h ++ t.responses }) ∧
  (∀ (s t : State) (r : Request) (rest : List HostEvent) (resp : Response), s.issued = .command r :: rest →
    step s = .next t → t.responses = s.responses ++ [resp] → resp.status ≠ .ok →
    { t with responses := s.responses } = { s with issued := rest } ∧
    ∀ rest', ∃ u, step { t with issued := .command r :: rest' } = .next u ∧ u.responses = t.responses ++ [resp])

/-- What a command leaves unchanged, for every command in every state: the variant always; `TDES.KS` and `TDES.ready`
but for a successful `TDES.MAKE_SCHEDULE`; `SERPENT.K` and `SERPENT.ready` but for a successful `SERPENT.MAKE_SCHEDULE`;
and every earlier response. The command leaves `issued`, and one response is appended (R24, R25, R26). -/
def Obligations.OnlyMakeScheduleWritesASchedule : Prop :=
  ∀ (i : Instr) (s t : State), exec i s = .next t →
    t.variant = s.variant ∧ t.issued = s.issued.tail ∧
    (∃ resp, t.responses = s.responses ++ [resp] ∧
      (t.tdes ≠ s.tdes → resp.status = .ok ∧ ∃ dir, i = .tdesMakeSchedule dir .raw 24) ∧
      (t.serpent ≠ s.serpent → resp.status = .ok ∧ ∃ dir klen, i = .serpentMakeSchedule dir .raw klen))

/-- The two sub-engines share no state: a command to one neither reads nor writes the other's flag or schedule (R20). -/
def Obligations.SubEnginesShareNoState : Prop :=
  ∀ (i : Instr) (s t : State), exec i s = .next t →
    (i.isTdes = true → t.serpent = s.serpent ∧
      ∀ e, exec i { s with serpent := e } = .next { t with serpent := e }) ∧
    (i.isTdes = false → t.tdes = s.tdes ∧
      ∀ e, exec i { s with tdes := e } = .next { t with tdes := e })

/-- R183: `DIR` has no effect on any state or response, and after a `MAKE_SCHEDULE` that ends with `OK` both block
commands of the sub-engine are available. -/
def Obligations.DirectionHasNoEffect : Prop :=
  (∀ (ktype : KeyType) (klen : Nat) (s : State),
    exec (.tdesMakeSchedule .dec ktype klen) s = exec (.tdesMakeSchedule .enc ktype klen) s ∧
    exec (.serpentMakeSchedule .dec ktype klen) s = exec (.serpentMakeSchedule .enc ktype klen) s) ∧
  (∀ (dir : Direction) (ktype : KeyType) (klen : Nat) (s t : State),
    (exec (.tdesMakeSchedule dir ktype klen) s = .next t → t.responses = s.responses ++ [⟨.ok, none, none⟩] →
      ∀ r rest, ∀ i ∈ [Instr.tdesEncryptBlock, Instr.tdesDecryptBlock],
        ∃ u dout, exec i { t with issued := .command r :: rest } = .next u ∧
          u.responses = t.responses ++ [⟨.ok, some dout, none⟩]) ∧
    (exec (.serpentMakeSchedule dir ktype klen) s = .next t → t.responses = s.responses ++ [⟨.ok, none, none⟩] →
      ∀ r rest, ∀ i ∈ [Instr.serpentEncryptBlock, Instr.serpentDecryptBlock],
        ∃ u dout, exec i { t with issued := .command r :: rest } = .next u ∧
          u.responses = t.responses ++ [⟨.ok, some dout, none⟩]))

/-- A command reads its operand only: two requests that agree on the `KLEN` bytes of `KEY` and the `N` bytes of `DIN` the
command has give the same result, so what the ports hold past the operand has no effect (R40, R48). That the ports hold
anything there is the model's choice (log entry 3). -/
def Obligations.BytesPastTheOperandAreNeverRead : Prop :=
  ∀ (i : Instr) (s : State) (r r' : Request) (rest : List HostEvent),
    r.key.toList.take i.keyBytes = r'.key.toList.take i.keyBytes →
    r.din.toList.take i.dinBytes = r'.din.toList.take i.dinBytes →
    exec i { s with issued := .command r :: rest } = exec i { s with issued := .command r' :: rest }

/-- The invariant holds right after reset, of an instance of any variant (R22, R65, R230). -/
def Obligations.InvariantHoldsAtReset : Prop := ∀ v : SerpentVariant, (State.resetOf v).Inv

/-- From every state of the invariant a step answers a next state, never a fault or a refusal, and that state is one of
the invariant: a ready sub-engine's register file is the schedule of one key the instance accepts, never a partly computed
one, and every response delivered is proper (R22, R65, R239). That a step with nothing issued is a next state is the
model's reading (log entry 5). -/
def Obligations.EveryStepKeepsTheInvariant : Prop :=
  ∀ s : State, s.Inv → SafeStep s ∧ ∀ t, step s = .next t → t.Inv

/-- R21, R22 (R22 is the spec's own inference): in a state of the invariant, the upper eight bits of every word of a ready `TDES.KS` are zero. -/
def Obligations.ReadyTdesWordsFitTwentyFourBits : Prop :=
  ∀ (s : State) (k : TdesSchedule), s.Inv → s.tdes = .ready k →
    ∀ (i : Fin 3) (n : Fin 32), (k[i.val][n.val]).extractLsb' 24 8 = 0

/-- A TDES session: after a successful `TDES.MAKE_SCHEDULE`, whatever the host issues in between, failed re-keyings and
SERPENT commands included, short of a reset or another successful `TDES.MAKE_SCHEDULE`, a TDES block command answers under
that key (R26, R50 (d), R234, R236). -/
def Obligations.TdesSessionUsesTheLastSchedule : Prop :=
  ∀ (s : State) (r0 r1 : Request) (mid : List HostEvent) (dir : Direction),
    s.issued = .command r0 :: (mid ++ [.command r1]) →
    decode r0.word = .ok (.tdesMakeSchedule dir .raw 24) →
    (∀ e ∈ mid, ∃ r, e = .command r ∧ ∀ d, decode r.word ≠ .ok (.tdesMakeSchedule d .raw 24)) →
    (decode r1.word = .ok .tdesEncryptBlock →
      ∃ t, runSteps (mid.length + 2) s = .next t ∧ t.issued = [] ∧ t.responses.getLast? =
        some ⟨.ok, some (tdesEncrypt (tdesSchedule (r0.key.toList.take 24)) (r1.din.toList.take 8)), none⟩) ∧
    (decode r1.word = .ok .tdesDecryptBlock →
      ∃ t, runSteps (mid.length + 2) s = .next t ∧ t.issued = [] ∧ t.responses.getLast? =
        some ⟨.ok, some (tdesDecrypt (tdesSchedule (r0.key.toList.take 24)) (r1.din.toList.take 8)), none⟩)

/-- A SERPENT session, likewise (R26, R50 (d), R234, R236). -/
def Obligations.SerpentSessionUsesTheLastSchedule : Prop :=
  ∀ (s : State) (r0 r1 : Request) (mid : List HostEvent) (dir : Direction) (klen : Nat),
    s.issued = .command r0 :: (mid ++ [.command r1]) →
    decode r0.word = .ok (.serpentMakeSchedule dir .raw klen) → serpentKeyStatus s.variant .raw klen = .ok →
    (∀ e ∈ mid, ∃ r, e = .command r ∧ ∀ d kt n, decode r.word = .ok (.serpentMakeSchedule d kt n) →
      serpentKeyStatus s.variant kt n ≠ .ok) →
    (decode r1.word = .ok .serpentEncryptBlock →
      ∃ t, runSteps (mid.length + 2) s = .next t ∧ t.issued = [] ∧ t.responses.getLast? =
        some ⟨.ok, some (serpentEncrypt (serpentSchedule (r0.key.toList.take klen)) r1.din.toList), none⟩) ∧
    (decode r1.word = .ok .serpentDecryptBlock →
      ∃ t, runSteps (mid.length + 2) s = .next t ∧ t.issued = [] ∧ t.responses.getLast? =
        some ⟨.ok, some (serpentDecrypt (serpentSchedule (r0.key.toList.take klen)) r1.din.toList), none⟩)

/-- Commands to TDES and commands to SERPENT commute: issued in either order they leave the same architectural state and
each has the same response (R50 (e)). -/
def Obligations.TdesAndSerpentCommandsCommute : Prop :=
  ∀ (s : State) (r1 r2 : Request) (rest : List HostEvent) (i j : Instr),
    decode r1.word = .ok i → i.isTdes = true → decode r2.word = .ok j → j.isTdes = false →
    ∃ (t : State) (a b : Response),
      runSteps 2 { s with issued := .command r1 :: .command r2 :: rest } =
        .next { t with issued := rest, responses := s.responses ++ [a, b] } ∧
      runSteps 2 { s with issued := .command r2 :: .command r1 :: rest } =
        .next { t with issued := rest, responses := s.responses ++ [b, a] }

/-! ### Byte orders and word primitives (00_scope.md, 20_memory.md) -/

/-- R11: FIPS position `k` of `Perm(T, n, v)` is FIPS position `T[k]` of `v`. -/
def Obligations.PermMovesFipsPositions : Prop :=
  ∀ (T : List Nat) (n m : Nat) (v : BitVec n), T.length = m → ∀ (k : Nat) (hk : k < T.length),
    fips (perm T m v) (k + 1) = fips v T[k]

/-- A 64-bit block is big-endian, byte 0 most significant, in and out; a Serpent word is little-endian, byte 0 least
significant, in and out; and each order's output undoes its input (R42, R44; the
order of the TDES output is the spec's own inference). -/
def Obligations.ByteOrdersAreBigForTdesLittleForSerpent : Prop :=
  (∀ B : List Byte, B.length = 8 → ∀ (b : Nat) (hb : b < B.length) (q : Nat), q < 8 →
    (be64 B).getLsbD (56 - 8 * b + q) = B[b].getLsbD q) ∧
  (∀ v : BitVec 64, be64 (bytesBe v) = v) ∧
  (∀ B : List Byte, B.length = 8 → bytesBe (be64 B) = B) ∧
  (∀ (B : List Byte) (a : Nat), a + 4 ≤ B.length → ∀ (b : Nat) (hb : a + b < B.length) (q : Nat), b < 4 → q < 8 →
    (le32 B a).getLsbD (8 * b + q) = B[a + b].getLsbD q) ∧
  (∀ x : Quad, loadQuad (storeQuad x) = x) ∧
  (∀ B : List Byte, B.length = 16 → storeQuad (loadQuad B) = B)

/-! ### The Triple-DES key schedule (40_tdes_keyschedule.md) -/

/-- R82 (the spec's own inference, from R81): bit 0 of each key byte does not influence the schedule: two keys that differ only in those bits give identical
schedules. -/
def Obligations.KeyScheduleIgnoresBitZeroOfEachByte : Prop :=
  ∀ key key' : List Byte, key.length = 24 → key'.length = 24 →
    (∀ j, (key.getD j 0) >>> 1 = (key'.getD j 0) >>> 1) → tdesSchedule key = tdesSchedule key'

/-- R84 (the spec's own inference, from R83): round key `j` is Permuted Choice 2 of the starting halves rotated by the sum of the amounts so far, and after the
sixteenth round both halves are back where they started. -/
def Obligations.RoundKeysAreCumulativeRotations : Prop :=
  ∀ c d : BitVec 28,
    roundKeys rotations c d =
      [1, 2, 4, 6, 8, 10, 12, 14, 15, 17, 19, 21, 23, 25, 27, 28].map
        (fun n => perm pc2 48 (rotl28 c n ++ rotl28 d n)) ∧
    rotl28 c 28 = c ∧ rotl28 d 28 = d

/-- R86: words `2j` and `2j+1` of set `i` are FIPS positions 1..24 and 25..48 of round key `j` of key third `i`, each
right-aligned with its upper eight bits zero (R80, R81, R85). -/
def Obligations.ScheduleWordsAreTheHalvesOfTheRoundKeys : Prop :=
  ∀ (key : List Byte) (i : Fin 3) (j : Fin 16) (K : BitVec 48),
    (let T := be64 ((key.drop (8 * i.val)).take 8)
     (roundKeys rotations (perm pc1C 28 T) (perm pc1D 28 T))[j.val]?) = some K →
    (tdesSchedule key)[i.val][2 * j.val]'(by omega) = (K.extractLsb' 24 24).setWidth 32 ∧
    (tdesSchedule key)[i.val][2 * j.val + 1]'(by omega) = (K.extractLsb' 0 24).setWidth 32

/-- R89 (the spec's own inference, from R81, R83 and R85): degenerate keys are legal. Every 24-byte raw key is accepted; the all-zero key gives 96 zero words and the
all-`0xFF` key 96 words `0x00FFFFFF`. -/
def Obligations.DegenerateKeysAreAccepted : Prop :=
  (∀ (dir : Direction) (s : State) (r : Request) (rest : List HostEvent), s.issued = .command r :: rest →
    ∃ t k, exec (.tdesMakeSchedule dir .raw 24) s = .next t ∧ t.tdes = .ready k) ∧
  (∀ (i : Fin 3) (n : Fin 32),
    (tdesSchedule (List.replicate 24 0x00))[i.val][n.val] = 0 ∧
    (tdesSchedule (List.replicate 24 0xFF))[i.val][n.val] = 0x00FFFFFF)

/-! ### The Triple-DES block transform (41_tdes_block.md) -/

/-- R102 (the spec's own inference, from R101): `FP` is the inverse of `IP` on every 64-bit value, and `FPT[k] = p` exactly when `IPT[p] = k`. -/
def Obligations.FpIsTheInverseOfIp : Prop :=
  (∀ v : BitVec 64, fp (ip v) = v ∧ ip (fp v) = v) ∧
  (∀ k p : Fin 64, fpt[k.val]? = some (p.val + 1) ↔ ipt[p.val]? = some (k.val + 1)) ∧
  ip 0x8000000000000000 = 0x0000000001000000 ∧ ip 0x0000000000000001 = 0x0000008000000000 ∧
  ip 0x0123456789ABCDEF = 0xCC00CCFFF0AAF0AA ∧ fp 0x0A4CD99543423234 = 0x85E813540F0AB405 ∧
  ip 0 = 0 ∧ ip 0xFFFFFFFFFFFFFFFF = 0xFFFFFFFFFFFFFFFF

/-- R108 (the spec's own inference, from R107): the merged tables computed from the S-boxes and `P` are the ones the spec prints, all 512 entries. -/
def Obligations.MergedTablesAreThePrintedOnes : Prop :=
  ∀ (k : Fin 8) (x : BitVec 6), printedSP[k.val][x.toNat]? = some (sp k x)

/-- The OR of the eight merged lookups is `P` of the eight S-box outputs side by side, so no further permutation is needed
(R106, R107; R120 is the spec's own inference). -/
def Obligations.SubstitutionIsPOfTheSBoxes : Prop :=
  ∀ left right : BitVec 24,
    substitute left right = perm pt 32
      (desSBoxOut 0 (left.extractLsb' 18 6) ++ desSBoxOut 1 (left.extractLsb' 12 6) ++
       desSBoxOut 2 (left.extractLsb' 6 6) ++ desSBoxOut 3 (left.extractLsb' 0 6) ++
       desSBoxOut 4 (right.extractLsb' 18 6) ++ desSBoxOut 5 (right.extractLsb' 12 6) ++
       desSBoxOut 6 (right.extractLsb' 6 6) ++ desSBoxOut 7 (right.extractLsb' 0 6))

/-- Two different merged tables never set the same bit, so OR, XOR and addition of the eight terms agree (R106). -/
def Obligations.MergedTermsAreDisjoint : Prop :=
  ∀ (k k' : Fin 8) (x x' : BitVec 6), k ≠ k' → sp k x &&& sp k' x' = 0

/-- R114 (the spec's own inference, from R109 to R111), for the passes: under any schedule set each pass undoes the other, for every 64-bit state. -/
def Obligations.PassesInvertEachOther : Prop :=
  ∀ (s : BitVec 64) (ks : KeySet), decryptDES (encryptDES s ks) ks = s ∧ encryptDES (decryptDES s ks) ks = s

/-- R114 (the spec's own inference, from R109 to R113 and R102), for the commands: `TDES.DECRYPT_BLOCK` inverts `TDES.ENCRYPT_BLOCK`, and conversely, under every schedule and for
every 8-byte block: whichever runs first, the other, given its `DOUT`, answers the first one's `DIN`. -/
def Obligations.TdesBlockCommandsInvertEachOther : Prop :=
  ∀ (s t u : State) (k : TdesSchedule) (r r' : Request) (rest rest' : List HostEvent) (dout : List Byte)
    (i j : Instr),
    (i = .tdesEncryptBlock ∧ j = .tdesDecryptBlock) ∨ (i = .tdesDecryptBlock ∧ j = .tdesEncryptBlock) →
    s.tdes = .ready k → s.issued = .command r :: rest →
    exec i s = .next t → t.responses = s.responses ++ [⟨.ok, some dout, none⟩] →
    u.tdes = .ready k → u.issued = .command r' :: rest' → r'.din.toList.take 8 = dout →
    exec j u = .next { u with
      issued := rest', responses := u.responses ++ [⟨.ok, some (r.din.toList.take 8), none⟩] }

/-- R115 (the spec's own inference, from R102 and R112): one `IP` and one `FP` around the three passes compute what three complete DES operations, each with its own,
compute. -/
def Obligations.TripleDesIsThreeCompleteDes : Prop :=
  ∀ (k : TdesSchedule) (v : BitVec 64),
    (let E := fun (ks : KeySet) (x : BitVec 64) => fp (encryptDES (ip x) ks)
     let D := fun (ks : KeySet) (x : BitVec 64) => fp (decryptDES (ip x) ks)
     tdesEncrypt64 k v = E k[2] (D k[1] (E k[0] v)) ∧ tdesDecrypt64 k v = D k[0] (E k[1] (D k[2] v)))

/-- Equal neighbouring schedule sets cancel, and the transform is single DES under the remaining set (R116, the spec's own inference from R114). -/
def Obligations.EqualSetsCancelToSingleDes : Prop :=
  ∀ (k : TdesSchedule) (v : BitVec 64),
    (k[0] = k[1] → tdesEncrypt64 k v = fp (encryptDES (ip v) k[2]) ∧ tdesDecrypt64 k v = fp (decryptDES (ip v) k[2])) ∧
    (k[1] = k[2] → tdesEncrypt64 k v = fp (encryptDES (ip v) k[0]) ∧ tdesDecrypt64 k v = fp (decryptDES (ip v) k[0]))

/-- The first round and the whole pass of the worked example (R118, the spec's own inference). -/
def Obligations.WorkedSinglePass : Prop :=
  expand 0xF0AAF0AA = 0x7A15557A1555 ∧
  leftHalf 0xF0AAF0AA (keySet 0x133457799BBCDFF1) 0 = 0x6117BA ∧
  rightHalf 0xF0AAF0AA (keySet 0x133457799BBCDFF1) 0 = 0x866527 ∧
  feistel 0xF0AAF0AA (keySet 0x133457799BBCDFF1) 0 = 0x234AA9BB ∧
  encryptDES 0xCC00CCFFF0AAF0AA (keySet 0x133457799BBCDFF1) = 0x0A4CD99543423234

/-! ### The Serpent key schedule (42_serpent_keyschedule.md) -/

/-- R131: the S-box acts on each bit position separately: the nibble at position `j` of the output is the table's entry
for the nibble at position `j` of the input. -/
def Obligations.SboxActsOnEachBitPosition : Prop :=
  ∀ (T : SBox) (x : Quad) (j : Nat), j < 32 →
    let n := (x.d0.getLsbD j).toNat + 2 * (x.d1.getLsbD j).toNat + 4 * (x.d2.getLsbD j).toNat +
      8 * (x.d3.getLsbD j).toNat
    ∃ (hn : n < 16), (sbox T x).d0.getLsbD j = T[n].getLsbD 0 ∧ (sbox T x).d1.getLsbD j = T[n].getLsbD 1 ∧
      (sbox T x).d2.getLsbD j = T[n].getLsbD 2 ∧ (sbox T x).d3.getLsbD j = T[n].getLsbD 3

/-- R133 (the spec's own inference, from R131 and R132): the forward formulas are a circuit of the forward tables, on all four-word inputs. -/
def Obligations.ForwardFormulasAreTheTables : Prop :=
  ∀ (i : Fin 8) (x : Quad), forwardCircuits[i.val] x = sbox (forwardBox i) x

/-- R153 (the spec's own inference, from R152): the inverse formulas are a circuit of the inverse tables, on all four-word inputs. -/
def Obligations.InverseFormulasAreTheTables : Prop :=
  ∀ (i : Fin 8) (x : Quad), inverseCircuits[i.val] x = sbox (inverseBox i) x

/-- R136: the padded key words stand before the 132 pre-keys, and every pre-key is the recurrence's value of the words
before it. -/
def Obligations.PreKeysSatisfyTheRecurrence : Prop :=
  ∀ key : List Byte,
    (preKeys key).length = 132 ∧
    ∀ i, i < 132 →
      let w := (List.range 8).map (paddedWord key) ++ preKeys key
      w.getD (i + 8) 0 = rotl (w.getD i 0 ^^^ w.getD (i + 3) 0 ^^^ w.getD (i + 5) 0 ^^^ w.getD (i + 7) 0 ^^^
        0x9E3779B9 ^^^ BitVec.ofNat 32 i) 11

/-- R137: group `g` of the schedule is pre-keys `4g .. 4g+3` through the S-box of the fixed order
`S3, S2, S1, S0, S7, S6, S5, S4`, repeating. -/
def Obligations.ScheduleGroupsAreBoxedPreKeys : Prop :=
  ∀ (key : List Byte) (g : Fin 33),
    let w := preKeys key
    let o := [(3 : Fin 8), 2, 1, 0, 7, 6, 5, 4].getD (g.val % 8) 0
    keyGroup (serpentSchedule key) g =
      sbox (forwardBox o) ⟨w.getD (4 * g.val) 0, w.getD (4 * g.val + 1) 0, w.getD (4 * g.val + 2) 0, w.getD (4 * g.val + 3) 0⟩

/-- A short key and the 32-byte key that spells out its padding give the same schedule (R135;
R141 is the spec's own inference). -/
def Obligations.SpelledOutPaddingGivesTheSameSchedule : Prop :=
  ∀ (key : List Byte) (m : Nat), key.length = 4 * m → m < 8 →
    serpentSchedule (key ++ [0x01, 0x00, 0x00, 0x00] ++ List.replicate (28 - 4 * m) 0x00) = serpentSchedule key

/-- R139: without a fixed variant, a raw key is accepted exactly for the eight lengths, and every other length is answered
`InvalidSize`. -/
def Obligations.SerpentAcceptsTheEightLengths : Prop :=
  ∀ klen : Nat,
    (klen ∈ [4, 8, 12, 16, 20, 24, 28, 32] → serpentKeyStatus .none .raw klen = .ok) ∧
    (klen ∉ [4, 8, 12, 16, 20, 24, 28, 32] → serpentKeyStatus .none .raw klen = .invalidSize)

/-! ### The Serpent block transform (43_serpent_block.md) -/

/-- R152 (the spec's own inference, from R131 and R132): each inverse table inverts its forward table, entry by entry, so each inverse S-box inverts its S-box on all
four-word values, in both orders. -/
def Obligations.InverseBoxesInvert : Prop :=
  ∀ i : Fin 8,
    (∀ n : BitVec 4, SBox.at (inverseBox i) (SBox.at (forwardBox i) n) = n) ∧
    (∀ x : Quad, sbox (inverseBox i) (sbox (forwardBox i) x) = x ∧
      sbox (forwardBox i) (sbox (inverseBox i) x) = x)

/-- `LT` is linear over XOR, and one of the printed check values (R154). -/
def Obligations.LinearTransformIsLinear : Prop :=
  (∀ x y : Quad, lt (x.xor y) = (lt x).xor (lt y)) ∧ lt ⟨0, 0, 0, 0⟩ = ⟨0, 0, 0, 0⟩ ∧
  lt ⟨0x01234567, 0x89ABCDEF, 0xFEDCBA98, 0x76543210⟩ = ⟨0x835D3BD5, 0x2FC5F218, 0xC97FDBC8, 0xEB73FBE2⟩

/-- R155 (the spec's own inference, from R154): `ILT` undoes `LT`, and `LT` undoes `ILT`, on every four-word value. -/
def Obligations.InverseLinearTransformInverts : Prop := ∀ x : Quad, ilt (lt x) = x ∧ lt (ilt x) = x

/-- R162 (the spec's own inference, from R151, R152, R155, R160 and R161): `SERPENT.DECRYPT_BLOCK` inverts `SERPENT.ENCRYPT_BLOCK`, and conversely, under every schedule and for every
16-byte block: whichever runs first, the other, given its `DOUT`, answers the first one's `DIN`. -/
def Obligations.SerpentBlockCommandsInvertEachOther : Prop :=
  ∀ (s t u : State) (k : SerpentSchedule) (r r' : Request) (rest rest' : List HostEvent) (dout : List Byte)
    (i j : Instr),
    (i = .serpentEncryptBlock ∧ j = .serpentDecryptBlock) ∨ (i = .serpentDecryptBlock ∧ j = .serpentEncryptBlock) →
    s.serpent = .ready k → s.issued = .command r :: rest →
    exec i s = .next t → t.responses = s.responses ++ [⟨.ok, some dout, none⟩] →
    u.serpent = .ready k → u.issued = .command r' :: rest' → r'.din.toList = dout →
    exec j u = .next { u with
      issued := rest', responses := u.responses ++ [⟨.ok, some r.din.toList, none⟩] }
end

