-- ==== Sys2Proof/Laws/Bits.lean ====
section
/-! SUPPORT. Bit by bit spec lemmas of the word primitives (00_scope.md R11, R12). -/

namespace Sys2Proof.Machine

theorem bitAt_getLsbD (m : Nat) (b : Bool) (j : Nat) : (bitAt m b).getLsbD j = (decide (j < m) && decide (j = 0) && b) := by
  by_cases hj : j = 0 <;> simp [bitAt, BitVec.getLsbD_setWidth, BitVec.getLsbD_ofBool, hj]

/-- Bit `j` of the word built from `f` is `f j` (below the width). -/
theorem ofBits_getLsbD (f : Nat → Bool) : ∀ n j, n ≤ 32 → (ofBits f n).getLsbD j = (decide (j < n) && f j)
  | 0, j, _ => by simp [ofBits]
  | n + 1, j, h => by
    rw [ofBits, BitVec.getLsbD_or, ofBits_getLsbD f n j (by omega), BitVec.getLsbD_shiftLeft, bitAt_getLsbD]
    rcases Nat.lt_trichotomy j n with h' | h' | h'
    · simp [h', show j < n + 1 by omega]
    · subst h'; simp [show j < 32 by omega]
    · simp [show ¬ j < n by omega, show ¬ j < n + 1 by omega, show ¬ j - n = 0 by omega]

/-- The shift-and-enter fold of `perm`, from any accumulator: the table's bits enter below the accumulator's. -/
theorem perm_fold_getLsbD {n m : Nat} (v : BitVec n) : ∀ (T : List Nat) (acc : BitVec m) (j : Nat),
    (T.foldl (fun (acc : BitVec m) p => (acc <<< 1) ||| bitAt m (fips v p)) acc).getLsbD j =
      (decide (j < m) && if j < T.length then fips v (T.getD (T.length - 1 - j) 0) else acc.getLsbD (j - T.length))
  | [], acc, j => by
    by_cases h : j < m
    · simp [h]
    · simp [h, BitVec.getLsbD_of_ge acc j (by omega)]
  | p :: T, acc, j => by
    rw [List.foldl_cons, perm_fold_getLsbD v T, BitVec.getLsbD_or, BitVec.getLsbD_shiftLeft, bitAt_getLsbD,
      List.length_cons]
    by_cases hm : j < m <;> simp only [hm, decide_true, decide_false, Bool.true_and, Bool.false_and]
    rcases Nat.lt_trichotomy j T.length with h' | h' | h'
    · rw [if_pos h', if_pos (by omega), show T.length + 1 - 1 - j = (T.length - 1 - j) + 1 by omega, List.getD_cons_succ]
    · subst h'
      simp [show 0 < m by omega]
    · rw [if_neg (by omega), if_neg (by omega), show j - T.length - 1 = j - (T.length + 1) by omega]
      simp [show j - T.length < m by omega, show ¬ j - T.length < 1 by omega, show ¬ j - T.length = 0 by omega]

/-- Integer bit `j` of `Perm(T, n, v)` is FIPS position `T[m - j]` of `v` (00_scope.md R11). -/
theorem perm_getLsbD {n m : Nat} (T : List Nat) (v : BitVec n) (hT : T.length = m) (j : Nat) (hj : j < m) :
    (perm T m v).getLsbD j = fips v (T.getD (m - 1 - j) 0) := by
  subst hT
  rw [perm, perm_fold_getLsbD]
  simp [hj]

/-- `rotl` is the library's rotation for the amounts that occur (00_scope.md R12: `1 <= s <= 31`). -/
theorem rotl_eq_rotateLeft (a : Word) (s : Nat) (h : s < 32) : rotl a s = a.rotateLeft s := by
  simp [rotl, BitVec.rotateLeft, BitVec.rotateLeftAux, Nat.mod_eq_of_lt h]

/-- Bit `j` of `rotl a s`. -/
theorem rotl_getLsbD (a : Word) (s j : Nat) (hs : s < 32) (hj : j < 32) :
    (rotl a s).getLsbD j = if j < s then a.getLsbD (32 - s + j) else a.getLsbD (j - s) := by
  rw [rotl, BitVec.getLsbD_or, BitVec.getLsbD_shiftLeft, BitVec.getLsbD_ushiftRight]
  by_cases h : j < s
  · simp [h, hj]
  · simp [h, hj, BitVec.getLsbD_of_ge a (32 - s + j) (by omega)]

/-- Bit `j` of `rotl28 a s`. -/
theorem rotl28_getLsbD (a : BitVec 28) (s j : Nat) (hs : s ≤ 28) (hj : j < 28) :
    (rotl28 a s).getLsbD j = if j < s then a.getLsbD (28 - s + j) else a.getLsbD (j - s) := by
  rw [rotl28, BitVec.getLsbD_or, BitVec.getLsbD_shiftLeft, BitVec.getLsbD_ushiftRight]
  by_cases h : j < s
  · simp [h, hj]
  · simp [h, hj, BitVec.getLsbD_of_ge a (28 - s + j) (by omega)]

end Sys2Proof.Machine
end

