-- ==== Sys2Proof/Laws/Decode.lean ====
section
/-! SUPPORT. The command word as its seven fields (30_encoding.md R61): a word is its fields, an assembled word reads its
fields back, and a row's selection rule (30_encoding.md R63) is a condition on fields. -/

namespace Sys2Proof

/-- Two words with the same fields are the same word: the fields cover all 32 bits. -/
theorem word_eq_iff_fields (c c' : Word) :
    c = c' ↔ c.op = c'.op ∧ c.eng = c'.eng ∧ c.dir = c'.dir ∧ c.ktype = c'.ktype ∧ c.reservedLow = c'.reservedLow ∧
      c.klen = c'.klen ∧ c.reservedHigh = c'.reservedHigh := by
  constructor
  · rintro rfl; simp
  · rintro ⟨h0, h1, h2, h3, h4, h5, h6⟩
    have split : ∀ w : Word,
        w = w.reservedHigh ++ w.klen ++ w.reservedLow ++ w.ktype ++ w.dir ++ w.eng ++ w.op := by
      intro w
      apply BitVec.eq_of_getLsbD_eq
      intro i hi
      simp only [Word.op, Word.eng, Word.dir, Word.ktype, Word.reservedLow, Word.klen, Word.reservedHigh,
        BitVec.getLsbD_append, BitVec.getLsbD_extractLsb']
      interval_cases i <;> simp
    rw [split c, split c', h0, h1, h2, h3, h4, h5, h6]

section fields
variable (op : BitVec 3) (eng dir ktype : BitVec 1) (klen : BitVec 8)

/-- An assembled word reads its fields back, and its reserved bits are zero (30_encoding.md R61). -/
theorem assemble_fields :
    (assemble op eng dir ktype klen).op = op ∧ (assemble op eng dir ktype klen).eng = eng ∧
    (assemble op eng dir ktype klen).dir = dir ∧ (assemble op eng dir ktype klen).ktype = ktype ∧
    (assemble op eng dir ktype klen).reservedLow = 0 ∧ (assemble op eng dir ktype klen).klen = klen ∧
    (assemble op eng dir ktype klen).reservedHigh = 0 := by
  refine ⟨?_, ?_, ?_, ?_, ?_, ?_, ?_⟩ <;> apply BitVec.eq_of_getLsbD_eq <;> intro j hj <;>
    simp only [Word.op, Word.eng, Word.dir, Word.ktype, Word.reservedLow, Word.klen, Word.reservedHigh, assemble,
      BitVec.getLsbD_extractLsb', BitVec.getLsbD_append] <;>
    interval_cases j <;> simp

end fields

/-- A row with no free field selects exactly its own word. -/
theorem selects_whole (c p : Word) : (c &&& 0xFFFFFFFF == p) = decide (c = p) := by
  rw [show (0xFFFFFFFF : Word) = BitVec.allOnes 32 from rfl, BitVec.and_allOnes]
  exact beq_eq_decide c p

theorem and_ones16 (x : BitVec 16) : x &&& 65535#16 = x := BitVec.and_allOnes
theorem and_ones3 (x : BitVec 3) : x &&& 7#3 = x := BitVec.and_allOnes
theorem and_ones2 (x : BitVec 2) : x &&& 3#2 = x := BitVec.and_allOnes
theorem and_ones1 (x : BitVec 1) : x &&& 1#1 = x := BitVec.and_allOnes

/-- A `MAKE_SCHEDULE` row selects by `OP`, `ENG` and the reserved bits: `DIR`, `KTYPE` and `KLEN` are free. -/
theorem selects_make (c p : Word) (hp : p.dir = 0 ∧ p.ktype = 0 ∧ p.klen = 0 ∧ p.reservedLow = 0 ∧ p.reservedHigh = 0) :
    c &&& 0xFFFF00CF = p ↔ c.op = p.op ∧ c.eng = p.eng ∧ c.reservedLow = 0 ∧ c.reservedHigh = 0 := by
  obtain ⟨h1, h2, h3, h4, h5⟩ := hp
  rw [word_eq_iff_fields, h1, h2, h3, h4, h5]
  simp [Word.op, Word.eng, Word.dir, Word.ktype, Word.reservedLow, Word.klen, Word.reservedHigh,
    BitVec.extractLsb'_and, and_ones16, and_ones3, and_ones2, and_ones1]

/-- The `EFFECTIVE_STRENGTH` row selects by everything but `KLEN`. -/
theorem selects_strength (c p : Word) (hp : p.klen = 0 ∧ p.reservedHigh = 0) :
    c &&& 0xFFFF00FF = p ↔ c.op = p.op ∧ c.eng = p.eng ∧ c.dir = p.dir ∧ c.ktype = p.ktype ∧
      c.reservedLow = p.reservedLow ∧ c.reservedHigh = 0 := by
  obtain ⟨h1, h2⟩ := hp
  rw [word_eq_iff_fields, h1, h2]
  simp [Word.op, Word.eng, Word.dir, Word.ktype, Word.reservedLow, Word.klen, Word.reservedHigh,
    BitVec.extractLsb'_and, and_ones16, and_ones3, and_ones2, and_ones1]

end Sys2Proof
end

