-- ==== Sys2Proof/Laws/State.lean ====
section
/-! SUPPORT. What each update of the state leaves in each field, and what the command port does: one lemma per field per
update, so that no proof unfolds a record update. -/

namespace Sys2Proof.Machine

variable (s : State) (resp : Response) (kt : TdesSchedule) (ks : SerpentSchedule) (v : SerpentVariant)

@[simp] theorem deliver_variant : (s.deliver resp).variant = s.variant := rfl
@[simp] theorem deliver_tdes : (s.deliver resp).tdes = s.tdes := rfl
@[simp] theorem deliver_serpent : (s.deliver resp).serpent = s.serpent := rfl
@[simp] theorem deliver_issued : (s.deliver resp).issued = s.issued.tail := rfl
@[simp] theorem deliver_responses : (s.deliver resp).responses = s.responses ++ [resp] := rfl

@[simp] theorem setTdes_variant : (s.setTdes kt).variant = s.variant := rfl
@[simp] theorem setTdes_tdes : (s.setTdes kt).tdes = .ready kt := rfl
@[simp] theorem setTdes_serpent : (s.setTdes kt).serpent = s.serpent := rfl
@[simp] theorem setTdes_issued : (s.setTdes kt).issued = s.issued := rfl
@[simp] theorem setTdes_responses : (s.setTdes kt).responses = s.responses := rfl

@[simp] theorem setSerpent_variant : (s.setSerpent ks).variant = s.variant := rfl
@[simp] theorem setSerpent_tdes : (s.setSerpent ks).tdes = s.tdes := rfl
@[simp] theorem setSerpent_serpent : (s.setSerpent ks).serpent = .ready ks := rfl
@[simp] theorem setSerpent_issued : (s.setSerpent ks).issued = s.issued := rfl
@[simp] theorem setSerpent_responses : (s.setSerpent ks).responses = s.responses := rfl

@[simp] theorem takeReset_variant : s.takeReset.variant = s.variant := rfl
@[simp] theorem takeReset_tdes : s.takeReset.tdes = .uninit := rfl
@[simp] theorem takeReset_serpent : s.takeReset.serpent = .uninit := rfl
@[simp] theorem takeReset_issued : s.takeReset.issued = s.issued.tail := rfl
@[simp] theorem takeReset_responses : s.takeReset.responses = s.responses := rfl

@[simp] theorem resetOf_variant : (State.resetOf v).variant = v := rfl
@[simp] theorem resetOf_tdes : (State.resetOf v).tdes = .uninit := rfl
@[simp] theorem resetOf_serpent : (State.resetOf v).serpent = .uninit := rfl
@[simp] theorem resetOf_issued : (State.resetOf v).issued = [] := rfl
@[simp] theorem resetOf_responses : (State.resetOf v).responses = [] := rfl

@[simp] theorem readyBit_uninit {σ : Type} : (SubEngine.uninit : SubEngine σ).readyBit = 0 := rfl
@[simp] theorem readyBit_ready {σ : Type} (k : σ) : (SubEngine.ready k).readyBit = 1 := rfl
@[simp] theorem schedule_uninit {σ : Type} : (SubEngine.uninit : SubEngine σ).schedule = none := rfl
@[simp] theorem schedule_ready {σ : Type} (k : σ) : (SubEngine.ready k).schedule = some k := rfl

end Sys2Proof.Machine
end

