-- ==== Sys2Proof/Laws/Ops.lean ====
section
/-! SUPPORT. One spec lemma per shared operation: what it answers, said once. -/

namespace Sys2Proof.Machine

/-- With a command at the head of `issued`, that command is the current one. -/
theorem request_of_issued {s : State} {r : Request} {rest : List HostEvent} (h : s.issued = .command r :: rest) :
    s.request? = some r := by simp [State.request?, h]

/-- The current command stands at the head of `issued`. -/
theorem issued_of_request {s : State} {r : Request} (h : s.request? = some r) :
    ∃ rest, s.issued = .command r :: rest := by
  unfold State.request? at h
  split at h
  · next r' rest h' => exact ⟨rest, by simpa [h'] using h⟩
  · cases h

/-- A body that is given the current command runs on it. -/
theorem withRequest_of_issued {s : State} {r : Request} {rest : List HostEvent} (h : s.issued = .command r :: rest)
    (body : Request → Result) : withRequest s body = body r := by simp [withRequest, request_of_issued h]

/-- Everything `withRequest` can do: run its body on the command at the head, or fault where there is none. -/
theorem withRequest_cases (s : State) (body : Request → Result) :
    (∃ r rest, s.issued = .command r :: rest ∧ withRequest s body = body r) ∨
      (s.request? = none ∧ withRequest s body = .fault .noCommand) := by
  cases h : s.request? with
  | some r =>
    obtain ⟨rest, hr⟩ := issued_of_request h
    exact .inl ⟨r, rest, hr, withRequest_of_issued hr body⟩
  | none => exact .inr ⟨rfl, by simp [withRequest, h]⟩

/-- If `withRequest` answers a next state, a command stood at the head and its body answered that state. -/
theorem withRequest_next {s t : State} {body : Request → Result} (h : withRequest s body = .next t) :
    ∃ r rest, s.issued = .command r :: rest ∧ body r = .next t := by
  obtain ⟨r, rest, hr, he⟩ | ⟨_, he⟩ := withRequest_cases s body
  · exact ⟨r, rest, hr, he ▸ h⟩
  · rw [he] at h; cases h

/-- Delivering a response, with the command at the head named. -/
theorem deliver_of_issued {s : State} {r : Request} {rest : List HostEvent} (h : s.issued = .command r :: rest)
    (resp : Response) : s.deliver resp = { s with issued := rest, responses := s.responses ++ [resp] } := by
  simp [State.deliver, h]

/-- Ending with an error delivers the bare status and writes nothing else (60_exceptions.md R203). -/
theorem raise_of_issued {s : State} {r : Request} {rest : List HostEvent} (h : s.issued = .command r :: rest)
    (st : Status) :
    raise st s = .next { s with issued := rest, responses := s.responses ++ [⟨st, none, none⟩] } := by
  simp [raise, deliver_of_issued h, Response.bare]

theorem completeBlock_of_issued {s : State} {r : Request} {rest : List HostEvent} (h : s.issued = .command r :: rest)
    (dout : List Byte) :
    completeBlock dout s = .next { s with issued := rest, responses := s.responses ++ [⟨.ok, some dout, none⟩] } := by
  simp [completeBlock, deliver_of_issued h, Response.block]

theorem completeScalar_of_issued {s : State} {r : Request} {rest : List HostEvent} (h : s.issued = .command r :: rest)
    (val : Word) :
    completeScalar val s = .next { s with issued := rest, responses := s.responses ++ [⟨.ok, none, some val⟩] } := by
  simp [completeScalar, deliver_of_issued h, Response.scalar]

theorem completeBare_of_issued {s : State} {r : Request} {rest : List HostEvent} (h : s.issued = .command r :: rest) :
    completeBare s = .next { s with issued := rest, responses := s.responses ++ [⟨.ok, none, none⟩] } := by
  simp [completeBare, deliver_of_issued h, Response.bare]

/-! ### Operand arrays -/

theorem keyOperand_length (r : Request) (klen : Nat) (h : klen ≤ 255) : (r.keyOperand klen).length = klen := by
  simp [Request.keyOperand, h]

theorem dinOperand_length (r : Request) (n : Nat) (h : n ≤ 16) : (r.dinOperand n).length = n := by
  simp [Request.dinOperand, h]

theorem memRead_length (A : List Byte) (a n : Nat) (h : a + n ≤ A.length) : (memRead A a n).length = n := by
  simp [memRead]; omega

/-- `MemRead` of a whole array is the array (20_memory.md R41). -/
theorem memRead_all (A : List Byte) (n : Nat) (h : A.length = n) : memRead A 0 n = A := by
  simp [memRead, ← h]

@[simp] theorem bytesBe_length (v : BitVec 64) : (bytesBe v).length = 8 := by simp [bytesBe]

@[simp] theorem bytesLe_length (d : Word) : (bytesLe d).length = 4 := by simp [bytesLe]

/-- A byte sequence that fits a port is the first bytes of what stands on the port. -/
theorem onPort_take (n : Nat) (bytes : List Byte) (h : bytes.length ≤ n) :
    (onPort n bytes).toList.take bytes.length = bytes := by
  simp [onPort, List.take_take, Nat.min_eq_left h]

end Sys2Proof.Machine
end

