-- ==== Sys2Proof/Laws/Exec.lean ====
section
/-! SUPPORT. Everything `exec` and `step` can do, said once: the provers cite these instead of unfolding the meanings. -/

namespace Sys2Proof.Machine

/-- The state a command leaves before its response is delivered: unchanged, or one schedule register file written. -/
inductive Effect (s : State) : State → Prop where
  | nothing : Effect s s
  | tdes (key : List Byte) (hlen : key.length = 24) : Effect s (s.setTdes (tdesSchedule key))
  | serpent (key : List Byte) (hok : serpentKeyStatus s.variant .raw key.length = .ok) :
      Effect s (s.setSerpent (serpentSchedule key))

/-- The checks of `TDES.MAKE_SCHEDULE` pass exactly for a raw key of 24 bytes (60_exceptions.md R209). -/
theorem tdesKeyStatus_ok {ktype : KeyType} {klen : Nat} : tdesKeyStatus ktype klen = .ok ↔ ktype = .raw ∧ klen = 24 := by
  cases ktype <;> simp [tdesKeyStatus]

/-- The checks of `SERPENT.MAKE_SCHEDULE` pass only for a raw key whose size is legal (60_exceptions.md R209). -/
theorem serpentKeyStatus_ok {v : SerpentVariant} {ktype : KeyType} {klen : Nat} (h : serpentKeyStatus v ktype klen = .ok) :
    ktype = .raw ∧ 1 ≤ klen ∧ klen ≤ 32 ∧ klen % 4 = 0 := by
  cases ktype
  · by_cases hs : serpentSizeOk klen = true
    · simpa [serpentSizeOk, and_assoc] using hs
    · simp [serpentKeyStatus, hs] at h
  · simp [serpentKeyStatus] at h

theorem raise_next (st : Status) (s : State) : raise st s = .next (s.deliver (.bare st)) := rfl
theorem completeBare_next (s : State) : completeBare s = .next (s.deliver (.bare .ok)) := rfl
theorem completeBlock_next (d : List Byte) (s : State) : completeBlock d s = .next (s.deliver (.block d)) := rfl
theorem completeScalar_next (v : Word) (s : State) : completeScalar v s = .next (s.deliver (.scalar v)) := rfl

theorem bare_proper (st : Status) : (Response.bare st).Proper := by constructor <;> simp [Response.bare]

theorem scalar_proper (v : Word) : (Response.scalar v).Proper := by constructor <;> simp [Response.scalar]

theorem block_proper (d : List Byte) (h : d.length = 8 ∨ d.length = 16) : (Response.block d).Proper := by
  constructor <;> simp [Response.block, h]

@[simp] theorem storeQuad_length (x : Quad) : (storeQuad x).length = 16 := by simp [storeQuad]

/-- With a command presented, every command ends: it leaves one `Effect` and delivers one proper response. -/
theorem exec_effect (i : Instr) {s : State} {r : Request} {rest : List HostEvent} (h : s.issued = .command r :: rest) :
    ∃ u resp, Effect s u ∧ resp.Proper ∧ exec i s = .next (u.deliver resp) := by
  cases i with
  | tdesBlockSize => exact ⟨s, _, .nothing, scalar_proper _, withRequest_of_issued h _⟩
  | serpentBlockSize => exact ⟨s, _, .nothing, scalar_proper _, withRequest_of_issued h _⟩
  | tdesMakeSchedule dir ktype klen =>
    simp only [exec, execTdesMakeSchedule, withRequest_of_issued h]
    cases hs : tdesKeyStatus ktype klen with
    | ok =>
      obtain ⟨-, rfl⟩ := tdesKeyStatus_ok.1 hs
      have hk := keyOperand_length r 24 (by omega)
      exact ⟨_, .bare .ok, .tdes _ (memRead_length _ 0 24 (by omega)), bare_proper _, rfl⟩
    | _ => exact ⟨s, _, .nothing, bare_proper _, rfl⟩
  | tdesEncryptBlock =>
    simp only [exec, execTdesEncryptBlock, withRequest_of_issued h]
    cases s.tdes with
    | uninit => exact ⟨s, _, .nothing, bare_proper _, rfl⟩
    | ready k => exact ⟨s, _, .nothing, block_proper _ (.inl (bytesBe_length _)), rfl⟩
  | tdesDecryptBlock =>
    simp only [exec, execTdesDecryptBlock, withRequest_of_issued h]
    cases s.tdes with
    | uninit => exact ⟨s, _, .nothing, bare_proper _, rfl⟩
    | ready k => exact ⟨s, _, .nothing, block_proper _ (.inl (bytesBe_length _)), rfl⟩
  | tdesEffectiveStrength klen =>
    simp only [exec, execTdesEffectiveStrength, withRequest_of_issued h]
    cases strengthStatus klen with
    | ok => exact ⟨s, _, .nothing, scalar_proper _, rfl⟩
    | _ => exact ⟨s, _, .nothing, bare_proper _, rfl⟩
  | serpentMakeSchedule dir ktype klen =>
    simp only [exec, execSerpentMakeSchedule, withRequest_of_issued h]
    cases hs : serpentKeyStatus s.variant ktype klen with
    | ok =>
      obtain ⟨rfl, -, hle, -⟩ := serpentKeyStatus_ok hs
      have hk := keyOperand_length r klen (by omega)
      have hm := memRead_length (r.keyOperand klen) 0 klen (by omega)
      exact ⟨_, .bare .ok, .serpent _ (by rw [hm]; exact hs), bare_proper _, rfl⟩
    | _ => exact ⟨s, _, .nothing, bare_proper _, rfl⟩
  | serpentEncryptBlock =>
    simp only [exec, execSerpentEncryptBlock, withRequest_of_issued h]
    cases s.serpent with
    | uninit => exact ⟨s, _, .nothing, bare_proper _, rfl⟩
    | ready k => exact ⟨s, _, .nothing, block_proper _ (.inr (storeQuad_length _)), rfl⟩
  | serpentDecryptBlock =>
    simp only [exec, execSerpentDecryptBlock, withRequest_of_issued h]
    cases s.serpent with
    | uninit => exact ⟨s, _, .nothing, bare_proper _, rfl⟩
    | ready k => exact ⟨s, _, .nothing, block_proper _ (.inr (storeQuad_length _)), rfl⟩

/-- A meaning answers a next state only where a command is presented. -/
theorem exec_next {i : Instr} {s t : State} (h : exec i s = .next t) : ∃ r rest, s.issued = .command r :: rest := by
  cases i <;> obtain ⟨r, rest, hr, -⟩ := withRequest_next h <;> exact ⟨r, rest, hr⟩

/-- Everything a step can do: wait, take a reset, refuse an illegal word, or run the decoded command. -/
theorem step_cases (s : State) :
    (s.issued = [] ∧ step s = .next s) ∨
    (∃ rest, s.issued = .reset :: rest ∧ step s = .next s.takeReset) ∨
    (∃ r rest e, s.issued = .command r :: rest ∧ decode r.word = .error e ∧
      step s = .next (s.deliver (.bare .illegalCommand))) ∨
    (∃ r rest i, s.issued = .command r :: rest ∧ decode r.word = .ok i ∧ step s = exec i s) := by
  match h : s.issued with
  | [] => exact .inl ⟨rfl, by simp [step, h]⟩
  | .reset :: rest => exact .inr (.inl ⟨rest, rfl, by simp [step, h]⟩)
  | .command r :: rest =>
    cases hd : decode r.word with
    | error e => exact .inr (.inr (.inl ⟨r, rest, e, rfl, hd, by simp [step, h, hd, raise]⟩))
    | ok i => exact .inr (.inr (.inr ⟨r, rest, i, rfl, hd, by simp [step, h, hd]⟩))

end Sys2Proof.Machine
end

