-- ==== Sys2Proof/Laws/PerInstr.lean ====
section
/-! SUPPORT. Statements made per command. `ReservedZero`: the encoder leaves the reserved fields of every command zero
(30_encoding.md R67). -/

namespace Sys2Proof.Laws

namespace ReservedZero

/-- Bits 7:6 and 31:16 of the command's word are zero (30_encoding.md R67). -/
def Statement (i : Instr) : Prop := (encode i).reservedLow = 0 ∧ (encode i).reservedHigh = 0

/-- Of any word the encoder assembles. -/
theorem of_assemble (op : BitVec 3) (eng dir ktype : BitVec 1) (klen : BitVec 8) :
    (assemble op eng dir ktype klen).reservedLow = 0 ∧ (assemble op eng dir ktype klen).reservedHigh = 0 :=
  ⟨(assemble_fields op eng dir ktype klen).2.2.2.2.1, (assemble_fields op eng dir ktype klen).2.2.2.2.2.2⟩

theorem tdesBlockSize : Statement .tdesBlockSize := of_assemble _ _ _ _ _
theorem tdesMakeSchedule (dir : Direction) (ktype : KeyType) (klen : Nat) :
    Statement (.tdesMakeSchedule dir ktype klen) := of_assemble _ _ _ _ _
theorem tdesEncryptBlock : Statement .tdesEncryptBlock := of_assemble _ _ _ _ _
theorem tdesDecryptBlock : Statement .tdesDecryptBlock := of_assemble _ _ _ _ _
theorem tdesEffectiveStrength (klen : Nat) : Statement (.tdesEffectiveStrength klen) := of_assemble _ _ _ _ _
theorem serpentBlockSize : Statement .serpentBlockSize := of_assemble _ _ _ _ _
theorem serpentMakeSchedule (dir : Direction) (ktype : KeyType) (klen : Nat) :
    Statement (.serpentMakeSchedule dir ktype klen) := of_assemble _ _ _ _ _
theorem serpentEncryptBlock : Statement .serpentEncryptBlock := of_assemble _ _ _ _ _
theorem serpentDecryptBlock : Statement .serpentDecryptBlock := of_assemble _ _ _ _ _

end ReservedZero

end Sys2Proof.Laws
end

