-- ==== Sys2Proof/Laws/Schedules.lean ====
section
/-! SUPPORT. The schedule functions' own small lemmas: what stands in each register file, said without unfolding the
computation of it. -/

namespace Sys2Proof.Machine

/-! ### TDES -/

/-- The words of a set, in order. -/
theorem keySet_toList (third : BitVec 64) : (keySet third).toList = keySetWords third := by rw [keySet]; rfl

/-- A set depends on its third only through the two halves Permuted Choice 1 selects (40_tdes_keyschedule.md R87). -/
theorem keySet_congr {t t' : BitVec 64} (hc : startC t = startC t') (hd : startD t = startD t') :
    keySet t = keySet t' := by
  apply Vector.toList_inj.1
  rw [keySet_toList, keySet_toList, keySetWords, keySetWords, hc, hd]

@[simp] theorem threeSets_zero (a b c : KeySet) : (threeSets a b c)[0] = a := rfl
@[simp] theorem threeSets_one (a b c : KeySet) : (threeSets a b c)[1] = b := rfl
@[simp] theorem threeSets_two (a b c : KeySet) : (threeSets a b c)[2] = c := rfl

/-- There are as many round keys as rotation amounts. -/
theorem roundKeys_length : ∀ (vs : List Nat) (c d : BitVec 28), (roundKeys vs c d).length = vs.length
  | [], _, _ => rfl
  | _ :: vs, _, _ => by rw [roundKeys, List.length_cons, roundKeys_length vs, List.length_cons]

/-! ### Serpent -/

/-- The words of the schedule, in order. -/
theorem serpentSchedule_toList (key : List Byte) : (serpentSchedule key).toList = serpentWords key := by
  rw [serpentSchedule]; rfl

/-- A schedule depends on its key only through the padded words (42_serpent_keyschedule.md R141). -/
theorem serpentSchedule_congr {key key' : List Byte} (h : keyWindow key = keyWindow key') :
    serpentSchedule key = serpentSchedule key' := by
  apply Vector.toList_inj.1
  rw [serpentSchedule_toList, serpentSchedule_toList, serpentWords, serpentWords, preKeys, preKeys, h]

/-- Bit `j` of word `k` of the S-box output (42_serpent_keyschedule.md R131). -/
theorem sboxWord_getLsbD (T : SBox) (x : Quad) (k j : Nat) (hj : j < 32) :
    (sboxWord T x k).getLsbD j = (SBox.at T (x.nibble j)).getLsbD k := by
  rw [sboxWord, ofBits_getLsbD _ 32 j (by omega)]; simp [hj]

/-- Two four-word values with the same words are the same value. -/
theorem quad_ext {x y : Quad} (h0 : x.d0 = y.d0) (h1 : x.d1 = y.d1) (h2 : x.d2 = y.d2) (h3 : x.d3 = y.d3) : x = y := by
  cases x; cases y; simp_all

/-- `AddKey` is its own inverse (43_serpent_block.md R151). -/
theorem addKey_addKey (k : SerpentSchedule) (g : Fin 33) (x : Quad) : addKey k g (addKey k g x) = x := by
  apply quad_ext <;> simp [addKey, Quad.xor]

end Sys2Proof.Machine
end

