-- ==== Sys2Proof/Tests/Slice0.lean ====
section
/-! SUPPORT. Tests of single commands against the spec's worked values, and a witness of the hypotheses of every
obligation that has hypotheses. Expected values are the spec's own (the rule is named at each test); none was taken from
the model. -/

namespace Sys2Proof.Tests

-- One kernel evaluation at a time.
set_option Elab.async false

open Sys2Proof.Machine

/-! ### Helpers -/

/-- The state `s` with the one command `r` issued. -/
def issue (s : State) (r : Request) : State := { s with issued := [.command r] }

/-- The last response delivered, where the step answers a next state. -/
def answer : Result → Option Response
  | .next t => t.responses.getLast?
  | .fault _ => none
  | .refused _ => none

/-- `(TDES.ready, SERPENT.ready)` of the next state. -/
def readyBits : Result → Option (BitVec 1 × BitVec 1)
  | .next t => some (t.tdes.readyBit, t.serpent.readyBit)
  | .fault _ => none
  | .refused _ => none

/-- The `n` bytes of a number written in hexadecimal, first byte first (30_encoding.md R70). -/
def hex (n w : Nat) : List Byte := (List.range n).map fun b => BitVec.ofNat 8 (w / 256 ^ (n - 1 - b))

/-- The TDES key of the source's scenario (41_tdes_block.md R119). -/
def scenarioKey : List Byte := hex 24 0x0123456789ABCDEF23456789ABCDEF01456789ABCDEF0123

/-- The textbook third (40_tdes_keyschedule.md R92), three times. -/
def textbookKey : List Byte := hex 24 0x133457799BBCDFF1133457799BBCDFF1133457799BBCDFF1

/-- A TDES schedule of zero words, the schedule of the all-zero key (40_tdes_keyschedule.md R89). -/
def zeroTdes : TdesSchedule := threeSets (Vector.replicate 32 0) (Vector.replicate 32 0) (Vector.replicate 32 0)

/-- A SERPENT schedule of zero words. -/
def zeroSerpent : SerpentSchedule := Vector.replicate 132 0

/-- Reset, then both sub-engines ready. -/
def ready : State := { State.reset with tdes := .ready zeroTdes, serpent := .ready zeroSerpent }

/-- A request with nothing on its operand ports. -/
def bareRequest (w : Word) : Request := .ofWord w [] []

/-- The whole zero request. -/
def zeroRequest : Request := bareRequest 0

/-- A state with the zero request issued, nothing ready. -/
def plain : State := issue State.reset zeroRequest

/-! ### Well-formedness: each check, its edge, and a term it refuses (30_encoding.md R61, R7) -/

theorem test_wellFormed_edge :
    (Instr.tdesMakeSchedule .enc .raw 0).wellFormed = true ∧ (Instr.tdesMakeSchedule .dec .other 255).wellFormed = true ∧
    (Instr.tdesEffectiveStrength 255).wellFormed = true ∧ (Instr.serpentMakeSchedule .dec .raw 255).wellFormed = true := by
  decide
theorem test_wellFormed_refuses_tdes_key : (Instr.tdesMakeSchedule .enc .raw 256).wellFormed = false := by decide
theorem test_wellFormed_refuses_strength_key : (Instr.tdesEffectiveStrength 256).wellFormed = false := by decide
theorem test_wellFormed_refuses_serpent_key : (Instr.serpentMakeSchedule .enc .raw 256).wellFormed = false := by decide

/-! ### Decoding: words written out bit by bit from 30_encoding.md R61, as
`31:16 reserved, 15:8 KLEN, 7:6 reserved, 5 KTYPE, 4 DIR, 3 ENG, 2:0 OP` -/

theorem test_decode_tdesBlockSize :
    decode 0b0000000000000000_00000000_00_0_0_0_000 = .ok .tdesBlockSize := by decide
theorem test_decode_tdesMakeSchedule :
    decode 0b0000000000000000_00011000_00_0_1_0_001 = .ok (.tdesMakeSchedule .dec .raw 24) := by decide
theorem test_decode_tdesMakeSchedule_other :
    decode 0b0000000000000000_11111111_00_1_0_0_001 = .ok (.tdesMakeSchedule .enc .other 255) := by decide
theorem test_decode_tdesEncryptBlock :
    decode 0b0000000000000000_00000000_00_0_0_0_010 = .ok .tdesEncryptBlock := by decide
theorem test_decode_tdesDecryptBlock :
    decode 0b0000000000000000_00000000_00_0_0_0_011 = .ok .tdesDecryptBlock := by decide
theorem test_decode_tdesEffectiveStrength :
    decode 0b0000000000000000_00011000_00_0_0_0_100 = .ok (.tdesEffectiveStrength 24) := by decide
theorem test_decode_serpentBlockSize :
    decode 0b0000000000000000_00000000_00_0_0_1_000 = .ok .serpentBlockSize := by decide
theorem test_decode_serpentMakeSchedule :
    decode 0b0000000000000000_00010000_00_0_1_1_001 = .ok (.serpentMakeSchedule .dec .raw 16) := by decide
theorem test_decode_serpentMakeSchedule_other :
    decode 0b0000000000000000_10000001_00_1_0_1_001 = .ok (.serpentMakeSchedule .enc .other 129) := by decide
theorem test_decode_serpentEncryptBlock :
    decode 0b0000000000000000_00000000_00_0_0_1_010 = .ok .serpentEncryptBlock := by decide
theorem test_decode_serpentDecryptBlock :
    decode 0b0000000000000000_00000000_00_0_0_1_011 = .ok .serpentDecryptBlock := by decide

/-- 96_contract_vectors.md section 1, reserved `OP` values, with either `ENG`. -/
theorem test_decode_reserved_op :
    [(0x5 : Word), 0x6, 0x7, 0xD, 0xE, 0xF].map decode = List.replicate 6 (.error .reservedOp) := by decide
/-- 96_contract_vectors.md section 1. -/
theorem test_decode_no_serpent_strength : decode 0x0000000C = .error .noSerpentStrength := by decide
/-- 96_contract_vectors.md section 1, a field that must be zero. -/
theorem test_decode_reserved_field :
    [(0x102 : Word), 0x12, 0x14, 0x24, 0x100].map decode = List.replicate 5 (.error .reservedField) := by decide
/-- 96_contract_vectors.md section 1, reserved bits. -/
theorem test_decode_reserved_bits :
    [(0x41 : Word), 0x81, 0x10000, 0x80000001, 0xFFFFFFFF].map decode = List.replicate 5 (.error .reservedBits) := by
  decide

/-- The encoder on the worked words (30_encoding.md R72). -/
theorem test_encode_worked_words :
    [Instr.tdesMakeSchedule .enc .raw 24, .tdesMakeSchedule .dec .raw 24, .serpentMakeSchedule .enc .raw 16,
      .serpentMakeSchedule .enc .raw 32, .serpentMakeSchedule .enc .other 32, .tdesEffectiveStrength 24,
      .serpentDecryptBlock].map encode =
      [0x1801, 0x1811, 0x1009, 0x2009, 0x2029, 0x1804, 0xB] := by decide

/-- The host's placement of a row's word runs that command next; bits from `nbits` up are zero. -/
theorem test_withFetchWord :
    decodeTableWord 32 0x8 = some .serpentBlockSize ∧ decodeTableWord 8 0xFF08 = some .serpentBlockSize ∧
    decodeTableWord 32 0xC = none ∧
    answer (step (State.reset.withFetchWord 32 0x8)) = some ⟨.ok, none, some 16⟩ := by decide

/-- 30_encoding.md R66. -/
theorem test_status_codes :
    [Status.ok, .wrongLength, .unsupportedType, .invalidSize, .notReady, .illegalCommand].map Status.code =
      [0, 1, 2, 3, 4, 5] := by decide

/-! ### Commands, one step each -/

/-- 44_contract_ops.md R181, R182: in `Uninit` as well. -/
theorem test_blockSize :
    answer (step (issue State.reset .tdesBlockSize)) = some ⟨.ok, none, some 8⟩ ∧
    answer (step (issue ready .serpentBlockSize)) = some ⟨.ok, none, some 16⟩ := by decide

/-- 96_contract_vectors.md section 2: three equal thirds. -/
theorem test_strength_equal : answer (step (issue State.reset (.tdesEffectiveStrength textbookKey))) =
    some ⟨.ok, none, some 56⟩ := by decide +kernel

/-- 96_contract_vectors.md section 2: one differs in an ignored bit only, which still counts (44_contract_ops.md R185);
and 23 bytes are the wrong length. -/
theorem test_strength_differs :
    answer (step (issue State.reset
      (.tdesEffectiveStrength (hex 24 0x0123456789ABCDEF0123456789ABCDEF0123456789ABCDEE)))) = some ⟨.ok, none, some 112⟩ ∧
    answer (step (issue State.reset (.tdesEffectiveStrength (hex 23 0)))) = some ⟨.wrongLength, none, none⟩ := by
  decide +kernel

/-- 96_contract_vectors.md section 3: the status of `TDES.MAKE_SCHEDULE`, type before length. -/
theorem test_tdesMakeSchedule_errors :
    [Request.tdesMakeSchedule (hex 23 0), .tdesMakeSchedule (hex 25 0), .tdesMakeSchedule [],
      .tdesMakeSchedule (hex 23 0) .dec .other].map (fun r => answer (step (issue ready r))) =
      [some ⟨.wrongLength, none, none⟩, some ⟨.wrongLength, none, none⟩, some ⟨.wrongLength, none, none⟩,
       some ⟨.unsupportedType, none, none⟩] := by decide +kernel

/-- 40_tdes_keyschedule.md R92: the first, second and last words of the textbook third's set. -/
theorem test_tdesMakeSchedule_words :
    (match step (issue State.reset (.tdesMakeSchedule textbookKey)) with
      | .next t => t.tdes.schedule.map fun k => (k[0][0], k[1][1], k[2][31])
      | _ => none) = some (0x001B02EF, 0x00FC7072, 0x000E17F5) := by decide +kernel

/-- 41_tdes_block.md R112, R119: encryption under three different thirds. -/
theorem test_tdesEncryptBlock :
    answer (step (issue { State.reset with tdes := .ready (tdesSchedule scenarioKey) } (.tdesEncryptBlock (hex 8 0)))) =
      some ⟨.ok, some (hex 8 0x4EBA739C998BCB60), none⟩ := by decide +kernel

/-- 41_tdes_block.md R113: the decryption of the zero block under three different thirds. -/
theorem test_tdesDecryptBlock :
    answer (step (issue { State.reset with tdes := .ready (tdesSchedule scenarioKey) } (.tdesDecryptBlock (hex 8 0)))) =
      some ⟨.ok, some (hex 8 0x24B3DD5E0A403CF5), none⟩ := by decide +kernel

/-- 41_tdes_block.md R121, R104: check values of `f` with zero subkeys, and of `E`. -/
theorem test_round_function :
    feistel 0 (Vector.replicate 32 0) 0 = 0xD8D8DBBC ∧ feistel 0xFFFFFFFF (Vector.replicate 32 0) 3 = 0x38DBF9CB ∧
    expand 0x80000000 = 0x400000000001 ∧ expand 0x00000001 = 0x800000000002 := by decide +kernel

/-- 96_contract_vectors.md section 3: the status of `SERPENT.MAKE_SCHEDULE` at the edges of the legal sizes, and with a
fixed variant. -/
theorem test_serpentMakeSchedule_status :
    [0, 3, 4, 31, 32, 33, 36].map (serpentKeyStatus .none .raw) =
      [.invalidSize, .invalidSize, .ok, .invalidSize, .ok, .invalidSize, .invalidSize] ∧
    [4, 5, 16, 24].map (serpentKeyStatus .bytes16 .raw) = [.wrongLength, .invalidSize, .ok, .wrongLength] ∧
    [24, 28].map (serpentKeyStatus .bytes24 .raw) = [.ok, .wrongLength] ∧
    [28, 32, 36].map (serpentKeyStatus .bytes32 .raw) = [.wrongLength, .ok, .invalidSize] ∧
    serpentKeyStatus .bytes16 .other 33 = .unsupportedType := by decide

/-- 42_serpent_keyschedule.md R143: the first and last words of the schedule of the key `00 01 .. 0F`. -/
theorem test_serpentMakeSchedule_words :
    (match step (issue State.reset (.serpentMakeSchedule (hex 16 0x000102030405060708090A0B0C0D0E0F))) with
      | .next t => t.serpent.schedule.map fun k => (k[0], k[1], k[131])
      | _ => none) = some (0xD9ACACC1, 0xF4B57314, 0xF8CB72E1) := by decide +kernel

/-- The groups 0, 31 and 32 of the schedule of the all-zero 16-byte key (42_serpent_keyschedule.md R142), other words
zero. -/
def edgeGroups : SerpentSchedule :=
  ⟨(([0x6F579DD2, 0xA7A3A3CE, 0xF29990ED, 0x8ED77392] ++ List.replicate 120 0 ++
    [0x1F08F310, 0x7AAF29B2, 0xEBF4E180, 0xC23175A7, 0x5DBA09C8, 0x0735E815, 0x86801046, 0x4AF628F4]) : List Word).toArray, rfl⟩

/-- 43_serpent_block.md R165: round 0, round 31 and the whitening, each from the printed state before it. -/
theorem test_serpent_encrypt_rounds :
    encryptRound edgeGroups ⟨0, 0, 0, 0⟩ 0 = ⟨0x64FDBE66, 0x6E14817B, 0x35A514D4, 0xCD38F9B4⟩ ∧
    encryptRound edgeGroups ⟨0x60762C32, 0x210BF9C1, 0x3C16E6A7, 0x96073423⟩ 31 =
      ⟨0x270B29FE, 0xD7A641F3, 0xF03808D0, 0xA34C4E76⟩ ∧
    storeQuad (addKey edgeGroups 32 ⟨0x270B29FE, 0xD7A641F3, 0xF03808D0, 0xA34C4E76⟩) =
      hex 16 0x3620B17AE6A993D09618B8768266BAE9 := by decide +kernel

/-- 43_serpent_block.md R165 read upwards: decryption rounds 31 and 0. -/
theorem test_serpent_decrypt_rounds :
    decryptRound edgeGroups ⟨0x270B29FE, 0xD7A641F3, 0xF03808D0, 0xA34C4E76⟩ 31 =
      ⟨0x60762C32, 0x210BF9C1, 0x3C16E6A7, 0x96073423⟩ ∧
    decryptRound edgeGroups ⟨0x64FDBE66, 0x6E14817B, 0x35A514D4, 0xCD38F9B4⟩ 0 = ⟨0, 0, 0, 0⟩ ∧
    loadQuad (hex 16 0x000102030405060708090A0B0C0D0E0F) = ⟨0x03020100, 0x07060504, 0x0B0A0908, 0x0F0E0D0C⟩ := by
  decide +kernel

/-- 43_serpent_block.md R160, R165: the whole encryption. -/
theorem test_serpentEncryptBlock :
    answer (step (issue { State.reset with serpent := .ready (serpentSchedule (hex 16 0)) }
      (.serpentEncryptBlock (hex 16 0)))) =
      some ⟨.ok, some (hex 16 0x3620B17AE6A993D09618B8768266BAE9), none⟩ := by decide +kernel

/-- 43_serpent_block.md R161: the whole decryption of the zero block. -/
theorem test_serpentDecryptBlock :
    answer (step (issue { State.reset with serpent := .ready (serpentSchedule (hex 16 0)) }
      (.serpentDecryptBlock (hex 16 0)))) =
      some ⟨.ok, some (hex 16 0xDB16780F1BB72D40AA75C8AAF0B335DA), none⟩ := by decide +kernel

/-- 42_serpent_keyschedule.md R133, 43_serpent_block.md R153: check lines of `S2` and `SI5`. -/
theorem test_sbox_check_lines :
    sbox (forwardBox 2) ⟨0xAAAA, 0xCCCC, 0xF0F0, 0xFF00⟩ = ⟨0x0000639C, 0x0000A4D6, 0x00004DA6, 0xFFFF25E9⟩ ∧
    sbox (inverseBox 5) ⟨0xAAAA, 0xCCCC, 0xF0F0, 0xFF00⟩ = ⟨0x00001D6A, 0x00005B86, 0x000036D2, 0xFFFF61CB⟩ := by
  decide +kernel

/-- 43_serpent_block.md R154: a check line with high bits lost by the shifts. -/
theorem test_lt_check_line :
    lt ⟨0x80000000, 0, 0, 0⟩ = ⟨0x08060000, 0x00002000, 0x00001400, 0x00400000⟩ ∧
    lt ⟨0xFFFFFFFF, 0xFFFFFFFF, 0xFFFFFFFF, 0xFFFFFFFF⟩ = ⟨0xFFFF8FFF, 0xFFFFFFFF, 0x003FFFFF, 0xFFFFFC7F⟩ := by
  decide +kernel

/-- 96_contract_vectors.md section 4: refusals, each with the sub-engines as they were. -/
theorem test_refusals :
    [(0x2 : Word), 0x3, 0xA, 0xB].map (fun w => answer (step (issue State.reset (bareRequest w)))) =
      List.replicate 4 (some ⟨.notReady, none, none⟩) ∧
    answer (step (issue { ready with serpent := .uninit } (bareRequest 0xA))) = some ⟨.notReady, none, none⟩ ∧
    readyBits (step (issue { ready with serpent := .uninit } (bareRequest 0xA))) = some (1, 0) ∧
    answer (step (issue ready (bareRequest 0xC))) = some ⟨.illegalCommand, none, none⟩ ∧
    readyBits (step (issue ready (bareRequest 0xC))) = some (1, 1) := by decide +kernel

/-- 70_reset_and_hazards.md R230, R232: a reset clears both flags and keeps the variant. -/
theorem test_reset :
    readyBits (step { ready with variant := .bytes24, issued := [.reset] }) = some (0, 0) ∧
    (match step { ready with variant := .bytes24, issued := [.reset] } with
      | .next t => some t.variant
      | _ => none) = some .bytes24 := by decide +kernel

/-- A meaning applied where no command is presented stops by name. -/
theorem test_noCommand :
    (match exec .tdesBlockSize State.reset with
      | .fault .noCommand => true
      | _ => false) = true := by decide


/-! ### Witnesses: concrete states and operands that meet all hypotheses of an obligation together -/

section witnesses

/-- Both edges of `KLEN`. -/
theorem witness_DecodeOfEncodeIsTheCommand :
    (Instr.serpentMakeSchedule .dec .other 255).wellFormed = true ∧ (Instr.tdesMakeSchedule .enc .raw 0).wellFormed = true :=
  by decide

theorem witness_EncodeOfDecodeIsTheWord : decode 0x0000FF31 = .ok (.tdesMakeSchedule .dec .other 255) := by decide

/-- Both sides of the equivalence, and each reason alone. -/
theorem witness_IllegalWordsAreThoseWithReservedFields :
    (decode 0x0000FF31 = .ok (.tdesMakeSchedule .dec .other 255)) ∧ (decode 0x40 = .error .reservedBits) ∧
    (decode 0x10000 = .error .reservedBits) ∧ (decode 0x5 = .error .reservedOp) ∧ (decode 0xC = .error .noSerpentStrength) ∧
    (decode 0x10 = .error .reservedField) ∧ (decode 0x103 = .error .reservedField) := by decide

theorem witness_StepRunsTheDecodedCommand :
    plain.issued = .command zeroRequest :: [] ∧ decode zeroRequest.word = .ok .tdesBlockSize := ⟨rfl, by decide⟩

theorem witness_IllegalWordIsRefused :
    (issue ready (bareRequest 0xC)).issued = .command (bareRequest 0xC) :: [] ∧
    decode (bareRequest 0xC).word = .error .noSerpentStrength := ⟨rfl, by decide⟩

/-- Each of the two flags goes from 1 to 0. -/
theorem witness_ResetIsTheOnlyWayBackToUninit :
    let s : State := { ready with issued := [.reset] }
    s.issued = .reset :: [] ∧ ∃ t, step s = .next t ∧ (s.tdes.readyBit = 1 ∧ t.tdes.readyBit = 0) ∧
      (s.serpent.readyBit = 1 ∧ t.serpent.readyBit = 0) := ⟨rfl, _, rfl, ⟨rfl, rfl⟩, rfl, rfl⟩

theorem witness_ResetStateHoldsNoScheduleAndWaits : ready.issued = [] := rfl

/-- For every obligation whose only hypothesis is that a command stands at the head of `issued`:
`EveryCommandEndsWithOneResponse`, `ResponseFieldsArePresentOnlyWithOk`, `StatusFollowsThePriorityOrder`,
`TdesBlockSizeAnswersEight`, `SerpentBlockSizeAnswersSixteen`, `DegenerateKeysAreAccepted`. -/
theorem witness_commandIssued : plain.issued = .command zeroRequest :: [] := rfl

/-- `ResponseFieldsArePresentOnlyWithOk`, the last clause: a block command that answers a block. -/
theorem witness_ResponseFieldsArePresentOnlyWithOk :
    let s := issue ready (bareRequest 0x2)
    decode (bareRequest 0x2).word = .ok .tdesEncryptBlock ∧
    ∃ t resp dout, step s = .next t ∧ t.responses = s.responses ++ [resp] ∧ resp.dout = some dout := by
  exact ⟨by decide, (issue ready (bareRequest 0x2)).deliver (.block (tdesEncrypt zeroTdes ((bareRequest 0x2).dinOperand 8))),
    _, _, rfl, rfl, rfl⟩

/-- The three clauses: a length next to 24, three equal thirds, and thirds that differ. -/
theorem witness_EffectiveStrengthComparesTheThreeThirds :
    plain.issued = .command zeroRequest :: [] ∧ (23 ≠ 24 ∧ 25 ≠ 24) ∧
    (let K := zeroRequest.key.toList; K.take 8 = (K.drop 8).take 8 ∧ (K.drop 8).take 8 = (K.drop 16).take 8) ∧
    (let K := (Request.tdesEffectiveStrength (hex 24 1)).key.toList
     ¬ (K.take 8 = (K.drop 8).take 8 ∧ (K.drop 8).take 8 = (K.drop 16).take 8)) :=
  ⟨rfl, by decide, by decide +kernel, by decide +kernel⟩

theorem witness_TdesMakeScheduleWritesTheSchedule :
    plain.issued = .command zeroRequest :: [] ∧ (23 ≠ 24 ∧ 25 ≠ 24) := ⟨rfl, by decide⟩

/-- The four clauses, each at the edges of its range. -/
theorem witness_SerpentMakeScheduleWritesTheSchedule :
    plain.issued = .command zeroRequest :: [] ∧
    (∀ klen ∈ [0, 33, 31], klen < 1 ∨ klen > 32 ∨ klen % 4 ≠ 0) ∧
    (∀ klen ∈ [4, 32], 1 ≤ klen ∧ klen ≤ 32 ∧ klen % 4 = 0 ∧ SerpentVariant.bytes16.keyLength = some 16 ∧ klen ≠ 16) ∧
    (∀ klen ∈ [4, 32], 1 ≤ klen ∧ klen ≤ 32 ∧ klen % 4 = 0 ∧ plain.variant.keyLength = none) ∧
    (SerpentVariant.bytes32.keyLength = some 32 ∧ 32 % 4 = 0) :=
  ⟨rfl, by decide, by decide, by decide, by decide⟩

theorem witness_tdesBlock_uninit : plain.issued = .command zeroRequest :: [] ∧ plain.tdes = .uninit := ⟨rfl, rfl⟩
theorem witness_tdesBlock_ready :
    (issue ready zeroRequest).issued = .command zeroRequest :: [] ∧ (issue ready zeroRequest).tdes = .ready zeroTdes :=
  ⟨rfl, rfl⟩
theorem witness_serpentBlock_uninit : plain.issued = .command zeroRequest :: [] ∧ plain.serpent = .uninit := ⟨rfl, rfl⟩
theorem witness_serpentBlock_ready :
    (issue ready zeroRequest).issued = .command zeroRequest :: [] ∧
    (issue ready zeroRequest).serpent = .ready zeroSerpent := ⟨rfl, rfl⟩

/-- Each block command, the other sub-engine ready. -/
theorem witness_BlockCommandsAreRefusedWhileNotReady :
    (∀ i ∈ [Instr.tdesEncryptBlock, .tdesDecryptBlock], i.isBlock = true ∧ i.isTdes = true ∧
      (issue { ready with tdes := .uninit } zeroRequest).tdes.readyBit = 0) ∧
    (∀ i ∈ [Instr.serpentEncryptBlock, .serpentDecryptBlock], i.isBlock = true ∧ i.isTdes = false ∧
      (issue { ready with serpent := .uninit } zeroRequest).serpent.readyBit = 0) := by decide

/-- A failing command: `TDES.MAKE_SCHEDULE` of 23 bytes on a ready sub-engine. -/
theorem witness_ErrorsWriteNoState :
    ∃ t resp, exec (.tdesMakeSchedule .enc .raw 23) (issue ready zeroRequest) = .next t ∧
      t.responses = (issue ready zeroRequest).responses ++ [resp] ∧ resp.status ≠ .ok :=
  ⟨_, _, rfl, rfl, by decide⟩

theorem witness_StatusIsNotState :
    let s := issue ready (bareRequest 0x1701)
    s.issued = .command (bareRequest 0x1701) :: [] ∧
    ∃ t resp, step s = .next t ∧ t.responses = s.responses ++ [resp] ∧ resp.status ≠ .ok :=
  ⟨rfl, (issue ready (bareRequest 0x1701)).deliver (.bare .wrongLength), _, rfl, rfl, by decide⟩

/-- A successful `MAKE_SCHEDULE` of each sub-engine, which does change its register file. -/
theorem witness_OnlyMakeScheduleWritesASchedule :
    (∃ t, exec (.tdesMakeSchedule .enc .raw 24) plain = .next t ∧ t.tdes ≠ plain.tdes) ∧
    (∃ t, exec (.serpentMakeSchedule .dec .raw 4) plain = .next t ∧ t.serpent ≠ plain.serpent) :=
  ⟨⟨plain.setTdes _ |>.deliver (.bare .ok), rfl, by simp [plain, issue, State.reset]⟩,
   ⟨plain.setSerpent _ |>.deliver (.bare .ok), rfl, by simp [plain, issue, State.reset]⟩⟩

theorem witness_SubEnginesShareNoState :
    (∃ t, exec .tdesEncryptBlock plain = .next t ∧ Instr.isTdes .tdesEncryptBlock = true) ∧
    (∃ t, exec .serpentDecryptBlock plain = .next t ∧ Instr.isTdes .serpentDecryptBlock = false) :=
  ⟨⟨_, rfl, rfl⟩, ⟨_, rfl, rfl⟩⟩

/-- A `MAKE_SCHEDULE` of each sub-engine that ends with `OK`, with `dir=dec`. -/
theorem witness_DirectionHasNoEffect :
    (∃ t, exec (.tdesMakeSchedule .dec .raw 24) plain = .next t ∧ t.responses = plain.responses ++ [⟨.ok, none, none⟩]) ∧
    (∃ t, exec (.serpentMakeSchedule .dec .raw 16) plain = .next t ∧
      t.responses = plain.responses ++ [⟨.ok, none, none⟩]) :=
  ⟨⟨plain.setTdes _ |>.deliver (.bare .ok), rfl, rfl⟩, ⟨plain.setSerpent _ |>.deliver (.bare .ok), rfl, rfl⟩⟩

/-- Requests that differ only past the operand: in key byte 24 and in block byte 8. -/
theorem witness_BytesPastTheOperandAreNeverRead :
    let r := Request.ofWord 0x1801 (List.replicate 24 7) (List.replicate 8 9)
    let r' := Request.ofWord 0x1801 (List.replicate 25 7) (List.replicate 9 9)
    r.key[24] ≠ r'.key[24] ∧ r.din[8] ≠ r'.din[8] ∧
    (let i := Instr.tdesMakeSchedule .enc .raw 24
     r.key.toList.take i.keyBytes = r'.key.toList.take i.keyBytes ∧
     r.din.toList.take i.dinBytes = r'.din.toList.take i.dinBytes) ∧
    (let i := Instr.tdesDecryptBlock
     r.key.toList.take i.keyBytes = r'.key.toList.take i.keyBytes ∧
     r.din.toList.take i.dinBytes = r'.din.toList.take i.dinBytes) := by decide +kernel

/-- A state of the invariant with TDES ready. -/
def keyed : State := { State.reset with tdes := .ready (tdesSchedule textbookKey) }

theorem keyed_inv : keyed.Inv where
  tdes := by
    intro k h
    cases h
    exact ⟨textbookKey, by decide, rfl⟩
  serpent := by intro k h; cases h
  responses := by intro r h; cases h

theorem witness_EveryStepKeepsTheInvariant :
    ∃ t, (issue keyed zeroRequest).Inv ∧ step (issue keyed zeroRequest) = .next t :=
  ⟨_, ⟨keyed_inv.tdes, keyed_inv.serpent, keyed_inv.responses⟩, rfl⟩

theorem witness_ReadyTdesWordsFitTwentyFourBits :
    keyed.Inv ∧ keyed.tdes = .ready (tdesSchedule textbookKey) := ⟨keyed_inv, rfl⟩

/-- A session with a failed re-keying and a SERPENT re-keying between, then each block command. -/
theorem witness_TdesSessionUsesTheLastSchedule :
    let mid : List HostEvent := [.command (bareRequest 0x1701), .command (bareRequest 0x1009)]
    (∀ w ∈ [(0x2 : Word), 0x3],
      ({ State.reset with issued := .command (bareRequest 0x1801) :: (mid ++ [.command (bareRequest w)]) } : State).issued =
        .command (bareRequest 0x1801) :: (mid ++ [.command (bareRequest w)])) ∧
    decode (bareRequest 0x1801).word = .ok (.tdesMakeSchedule .enc .raw 24) ∧
    (∀ e ∈ mid, ∃ r, e = .command r ∧ ∀ d, decode r.word ≠ .ok (.tdesMakeSchedule d .raw 24)) ∧
    decode (bareRequest 0x2).word = .ok .tdesEncryptBlock ∧ decode (bareRequest 0x3).word = .ok .tdesDecryptBlock := by
  refine ⟨fun _ _ => rfl, by decide, ?_, by decide, by decide⟩
  intro e he
  simp only [List.mem_cons, List.not_mem_nil, or_false] at he
  obtain rfl | rfl := he
  · exact ⟨_, rfl, fun d => by cases d <;> decide⟩
  · exact ⟨_, rfl, fun d => by cases d <;> decide⟩

/-- Likewise for SERPENT, at the shortest key and, with the longest, on an instance of variant 32. -/
theorem witness_SerpentSessionUsesTheLastSchedule :
    let mid : List HostEvent := [.command (bareRequest 0x0509), .command (bareRequest 0x1801)]
    decode (bareRequest 0x0409).word = .ok (.serpentMakeSchedule .enc .raw 4) ∧
    decode (bareRequest 0x2009).word = .ok (.serpentMakeSchedule .enc .raw 32) ∧
    serpentKeyStatus State.reset.variant .raw 4 = .ok ∧ serpentKeyStatus (State.resetOf .bytes32).variant .raw 32 = .ok ∧
    (∀ v ∈ [State.reset.variant, (State.resetOf .bytes32).variant], ∀ e ∈ mid, ∃ r, e = .command r ∧ ∀ d kt n,
      decode r.word = .ok (.serpentMakeSchedule d kt n) → serpentKeyStatus v kt n ≠ .ok) ∧
    decode (bareRequest 0xA).word = .ok .serpentEncryptBlock ∧ decode (bareRequest 0xB).word = .ok .serpentDecryptBlock := by
  refine ⟨by decide, by decide, by decide, by decide, ?_, by decide, by decide⟩
  intro v hv e he
  simp only [List.mem_cons, List.not_mem_nil, or_false] at he
  obtain rfl | rfl := he
  · refine ⟨_, rfl, fun d kt n h => ?_⟩
    have : decode (bareRequest 0x0509).word = .ok (.serpentMakeSchedule .enc .raw 5) := by decide
    rw [this] at h
    cases h
    simp only [List.mem_cons, List.not_mem_nil, or_false] at hv
    obtain rfl | rfl := hv <;> decide
  · refine ⟨_, rfl, fun d kt n h => ?_⟩
    have : decode (bareRequest 0x1801).word = .ok (.tdesMakeSchedule .enc .raw 24) := by decide
    rw [this] at h
    cases h

theorem witness_TdesAndSerpentCommandsCommute :
    decode (bareRequest 0x1801).word = .ok (.tdesMakeSchedule .enc .raw 24) ∧
    Instr.isTdes (.tdesMakeSchedule .enc .raw 24) = true ∧
    decode (bareRequest 0xA).word = .ok .serpentEncryptBlock ∧ Instr.isTdes .serpentEncryptBlock = false := by decide

/-- An expansion table with a repeated entry: its first and its last position. -/
theorem witness_PermMovesFipsPositions : [4, 1, 2, 4, 3, 1].length = 6 ∧ 0 < [4, 1, 2, 4, 3, 1].length ∧
    5 < [4, 1, 2, 4, 3, 1].length := by decide

theorem witness_ByteOrdersAreBigForTdesLittleForSerpent :
    (hex 8 0x0123456789ABCDEF).length = 8 ∧ 7 < (hex 8 0x0123456789ABCDEF).length ∧
    (hex 16 1).length = 16 ∧ 12 + 4 ≤ (hex 16 1).length ∧ 12 + 3 < (hex 16 1).length := by decide

/-- Two different keys that agree above bit 0 of every byte (44_contract_ops.md R185). -/
theorem witness_KeyScheduleIgnoresBitZeroOfEachByte :
    let key := hex 24 0x0123456789ABCDEF0123456789ABCDEF0123456789ABCDEF
    let key' := hex 24 0x0022446688AACCEE0022446688AACCEE0022446688AACCEE
    key ≠ key' ∧ key.length = 24 ∧ key'.length = 24 ∧ (∀ j, (key.getD j 0) >>> 1 = (key'.getD j 0) >>> 1) := by
  refine ⟨by decide, by decide, by decide, fun j => ?_⟩
  by_cases h : j < 24
  · revert h
    revert j
    decide
  · rw [List.getD_eq_default, List.getD_eq_default]
    · simpa [hex] using h
    · simpa [hex] using h

/-- The first and the last round key exist. -/
theorem witness_ScheduleWordsAreTheHalvesOfTheRoundKeys (key : List Byte) (i : Fin 3) :
    let T := be64 ((key.drop (8 * i.val)).take 8)
    (∃ K, (roundKeys rotations (perm pc1C 28 T) (perm pc1D 28 T))[(0 : Fin 16).val]? = some K) ∧
    (∃ K, (roundKeys rotations (perm pc1C 28 T) (perm pc1D 28 T))[(15 : Fin 16).val]? = some K) :=
  ⟨⟨_, rfl⟩, ⟨_, rfl⟩⟩

theorem witness_MergedTermsAreDisjoint : (0 : Fin 8) ≠ 7 := by decide

/-- A block that fits the block port is the first bytes presented on it. -/
theorem din_of_ofWord (n : Nat) (d : List Byte) (hn : n ≤ 16) (hd : d.length = n) :
    (Request.ofWord 0 [] d).din.toList.take n = d := by
  subst hd
  exact onPort_take 16 d hn

/-- A 16-byte block is the whole of the block port. -/
theorem din16_of_ofWord (d : List Byte) (hd : d.length = 16) : (Request.ofWord 0 [] d).din.toList = d := by
  rw [← List.take_of_length_le (i := 16) (l := (Request.ofWord 0 [] d).din.toList) (by simp)]
  exact din_of_ofWord 16 d (by omega) hd

/-- Encrypt, then decrypt what came out. -/
theorem witness_TdesBlockCommandsInvertEachOther :
    ∃ (s t u : State) (r r' : Request) (dout : List Byte),
      s.tdes = .ready zeroTdes ∧ s.issued = .command r :: [] ∧ exec .tdesEncryptBlock s = .next t ∧
      t.responses = s.responses ++ [⟨.ok, some dout, none⟩] ∧ u.tdes = .ready zeroTdes ∧
      u.issued = .command r' :: [] ∧ r'.din.toList.take 8 = dout := by
  refine ⟨issue ready zeroRequest, _, issue ready (.ofWord 0 [] (tdesEncrypt zeroTdes (zeroRequest.dinOperand 8))),
    zeroRequest, _, tdesEncrypt zeroTdes (zeroRequest.dinOperand 8), rfl, rfl, rfl, rfl, rfl, rfl, ?_⟩
  exact din_of_ofWord 8 _ (by omega) (bytesBe_length _)

/-- Decrypt, then encrypt what came out. -/
theorem witness_TdesBlockCommandsInvertEachOther_decryptFirst :
    ∃ (s t u : State) (r r' : Request) (dout : List Byte),
      s.tdes = .ready zeroTdes ∧ s.issued = .command r :: [] ∧ exec .tdesDecryptBlock s = .next t ∧
      t.responses = s.responses ++ [⟨.ok, some dout, none⟩] ∧ u.tdes = .ready zeroTdes ∧
      u.issued = .command r' :: [] ∧ r'.din.toList.take 8 = dout := by
  refine ⟨issue ready zeroRequest, _, issue ready (.ofWord 0 [] (tdesDecrypt zeroTdes (zeroRequest.dinOperand 8))),
    zeroRequest, _, tdesDecrypt zeroTdes (zeroRequest.dinOperand 8), rfl, rfl, rfl, rfl, rfl, rfl, ?_⟩
  exact din_of_ofWord 8 _ (by omega) (bytesBe_length _)

/-- Encrypt, then decrypt what came out. -/
theorem witness_SerpentBlockCommandsInvertEachOther :
    ∃ (s t u : State) (r r' : Request) (dout : List Byte),
      s.serpent = .ready zeroSerpent ∧ s.issued = .command r :: [] ∧ exec .serpentEncryptBlock s = .next t ∧
      t.responses = s.responses ++ [⟨.ok, some dout, none⟩] ∧ u.serpent = .ready zeroSerpent ∧
      u.issued = .command r' :: [] ∧ r'.din.toList = dout := by
  refine ⟨issue ready zeroRequest, _, issue ready (.ofWord 0 [] (serpentEncrypt zeroSerpent (zeroRequest.dinOperand 16))),
    zeroRequest, _, serpentEncrypt zeroSerpent (zeroRequest.dinOperand 16), rfl, rfl, rfl, rfl, rfl, rfl, ?_⟩
  exact din16_of_ofWord _ (storeQuad_length _)

/-- Decrypt, then encrypt what came out. -/
theorem witness_SerpentBlockCommandsInvertEachOther_decryptFirst :
    ∃ (s t u : State) (r r' : Request) (dout : List Byte),
      s.serpent = .ready zeroSerpent ∧ s.issued = .command r :: [] ∧ exec .serpentDecryptBlock s = .next t ∧
      t.responses = s.responses ++ [⟨.ok, some dout, none⟩] ∧ u.serpent = .ready zeroSerpent ∧
      u.issued = .command r' :: [] ∧ r'.din.toList = dout := by
  refine ⟨issue ready zeroRequest, _, issue ready (.ofWord 0 [] (serpentDecrypt zeroSerpent (zeroRequest.dinOperand 16))),
    zeroRequest, _, serpentDecrypt zeroSerpent (zeroRequest.dinOperand 16), rfl, rfl, rfl, rfl, rfl, rfl, ?_⟩
  exact din16_of_ofWord _ (storeQuad_length _)

theorem witness_EqualSetsCancelToSingleDes : zeroTdes[0] = zeroTdes[1] ∧ zeroTdes[1] = zeroTdes[2] := ⟨rfl, rfl⟩

theorem witness_SboxActsOnEachBitPosition : 0 < 32 ∧ 31 < 32 := by decide

theorem witness_PreKeysSatisfyTheRecurrence : 0 < 132 ∧ 131 < 132 := by decide

/-- A key of no words, and the longest that is padded. -/
theorem witness_SpelledOutPaddingGivesTheSameSchedule :
    (([] : List Byte).length = 4 * 0 ∧ 0 < 8) ∧ ((List.replicate 28 (0xAB : Byte)).length = 4 * 7 ∧ 7 < 8) := by decide

theorem witness_SerpentAcceptsTheEightLengths :
    (4 ∈ [4, 8, 12, 16, 20, 24, 28, 32] ∧ 32 ∈ [4, 8, 12, 16, 20, 24, 28, 32]) ∧
    (0 ∉ [4, 8, 12, 16, 20, 24, 28, 32] ∧ 33 ∉ [4, 8, 12, 16, 20, 24, 28, 32]) := by decide

end witnesses

end Sys2Proof.Tests
end

section
/-! PROOFS. The statements of 00_scope.md: the position law of `Perm`, and what a step adds to its command. -/

namespace Sys2Proof.Machine

/-- The position law of `Perm` (00_scope.md R11). FIPS position `k + 1` of the `T.length`-bit result is its integer bit
`T.length - (k + 1)`, and that bit is the one that entry `k` of the table selects. -/
theorem fips_perm (T : List Nat) {n : Nat} (v : BitVec n) (k : Nat) (hk : k < T.length) :
    fips (perm T T.length v) (k + 1) = fips v T[k] := by
  have hentry : T.length - 1 - (T.length - (k + 1)) = k := by omega
  calc fips (perm T T.length v) (k + 1)
      = fips v (T.getD (T.length - 1 - (T.length - (k + 1))) 0) :=
        perm_getLsbD T v rfl (T.length - (k + 1)) (by omega)
    _ = fips v T[k] := by rw [hentry, List.getD_eq_getElem T 0 hk]

/-- With a command at the head of `issued` whose word decodes, the step is that command's meaning (00_scope.md R14). -/
theorem step_of_decode_ok {s : State} {r : Request} {rest : List HostEvent} {i : Instr}
    (h : s.issued = .command r :: rest) (hd : decode r.word = .ok i) : step s = exec i s := by
  simp only [step, h, hd]

/-- Settles O35, from the value of each integer bit of `Perm`. -/
theorem permMovesFipsPositions : Obligations.PermMovesFipsPositions := by
  rintro T n _ v rfl k hk
  exact fips_perm T v k hk

/-- Settles O6: the step's branch for a word that decodes. -/
theorem stepRunsTheDecodedCommand : Obligations.StepRunsTheDecodedCommand :=
  fun _ _ _ _ h hd => step_of_decode_ok h hd

end Sys2Proof.Machine
end

section
/-! PROOFS. The statements of 10_state.md: what each command answers, what it reads and writes, the invariant, and the
sessions of both sub-engines. -/

namespace Sys2Proof.Machine

/-! ### What the commands that read or write a sub-engine answer -/

section answers
variable {s : State} {r : Request} {rest : List HostEvent} (h : s.issued = .command r :: rest)
include h

/-- On 24 raw bytes `TDES.MAKE_SCHEDULE` writes their schedule (40_tdes_keyschedule.md R88). -/
theorem exec_tdesMakeSchedule_ok (dir : Direction) :
    exec (.tdesMakeSchedule dir .raw 24) s =
      .next ((s.setTdes (tdesSchedule (r.key.toList.take 24))).deliver (.bare .ok)) := by
  have hkey : memRead (r.keyOperand 24) 0 24 = r.key.toList.take 24 :=
    memRead_all _ 24 (keyOperand_length r 24 (by omega))
  rw [← hkey]
  exact withRequest_of_issued h _

/-- Where its checks fail, `TDES.MAKE_SCHEDULE` ends with their status (40_tdes_keyschedule.md R88). -/
theorem exec_tdesMakeSchedule_error (dir : Direction) {ktype : KeyType} {klen : Nat}
    (hne : tdesKeyStatus ktype klen ≠ .ok) :
    exec (.tdesMakeSchedule dir ktype klen) s = .next (s.deliver (.bare (tdesKeyStatus ktype klen))) := by
  simp only [exec, execTdesMakeSchedule, withRequest_of_issued h]
  cases hst : tdesKeyStatus ktype klen with
  | ok => exact absurd hst hne
  | _ => rfl

/-- Where its checks pass, `SERPENT.MAKE_SCHEDULE` writes the schedule of its key (42_serpent_keyschedule.md R138). -/
theorem exec_serpentMakeSchedule_ok (dir : Direction) {klen : Nat} (hok : serpentKeyStatus s.variant .raw klen = .ok) :
    exec (.serpentMakeSchedule dir .raw klen) s =
      .next ((s.setSerpent (serpentSchedule (r.key.toList.take klen))).deliver (.bare .ok)) := by
  obtain ⟨-, -, hle, -⟩ := serpentKeyStatus_ok hok
  have hkey : memRead (r.keyOperand klen) 0 klen = r.key.toList.take klen :=
    memRead_all _ klen (keyOperand_length r klen (by omega))
  simp only [exec, execSerpentMakeSchedule, withRequest_of_issued h, hok, hkey, completeBare_next]

/-- Where its checks fail, `SERPENT.MAKE_SCHEDULE` ends with their status (42_serpent_keyschedule.md R138). -/
theorem exec_serpentMakeSchedule_error (dir : Direction) {ktype : KeyType} {klen : Nat}
    (hne : serpentKeyStatus s.variant ktype klen ≠ .ok) :
    exec (.serpentMakeSchedule dir ktype klen) s =
      .next (s.deliver (.bare (serpentKeyStatus s.variant ktype klen))) := by
  simp only [exec, execSerpentMakeSchedule, withRequest_of_issued h]
  cases hst : serpentKeyStatus s.variant ktype klen with
  | ok => exact absurd hst hne
  | _ => rfl

/-- An `Uninit` TDES refuses both its block commands (60_exceptions.md R207). -/
theorem exec_tdesBlock_uninit (he : s.tdes = .uninit) :
    exec .tdesEncryptBlock s = .next (s.deliver (.bare .notReady)) ∧
    exec .tdesDecryptBlock s = .next (s.deliver (.bare .notReady)) := by
  simp only [exec, execTdesEncryptBlock, execTdesDecryptBlock, withRequest_of_issued h, he, raise_next, and_self]

/-- A ready TDES answers the transform of the block under its schedule (41_tdes_block.md R112, R113). -/
theorem exec_tdesBlock_ready {k : TdesSchedule} (he : s.tdes = .ready k) :
    exec .tdesEncryptBlock s = .next (s.deliver (.block (tdesEncrypt k (r.din.toList.take 8)))) ∧
    exec .tdesDecryptBlock s = .next (s.deliver (.block (tdesDecrypt k (r.din.toList.take 8)))) := by
  simp only [exec, execTdesEncryptBlock, execTdesDecryptBlock, withRequest_of_issued h, he, completeBlock_next,
    Request.dinOperand, and_self]

/-- An `Uninit` SERPENT refuses both its block commands (60_exceptions.md R207). -/
theorem exec_serpentBlock_uninit (he : s.serpent = .uninit) :
    exec .serpentEncryptBlock s = .next (s.deliver (.bare .notReady)) ∧
    exec .serpentDecryptBlock s = .next (s.deliver (.bare .notReady)) := by
  simp only [exec, execSerpentEncryptBlock, execSerpentDecryptBlock, withRequest_of_issued h, he, raise_next, and_self]

/-- A ready SERPENT answers the transform of the block under its schedule; the block is the whole block port
(43_serpent_block.md R160, R161). -/
theorem exec_serpentBlock_ready {k : SerpentSchedule} (he : s.serpent = .ready k) :
    exec .serpentEncryptBlock s = .next (s.deliver (.block (serpentEncrypt k r.din.toList))) ∧
    exec .serpentDecryptBlock s = .next (s.deliver (.block (serpentDecrypt k r.din.toList))) := by
  have hdin : r.dinOperand 16 = r.din.toList := List.take_of_length_le (by simp)
  simp only [exec, execSerpentEncryptBlock, execSerpentDecryptBlock, withRequest_of_issued h, he, completeBlock_next,
    hdin, and_self]

end answers

/-! ### What a command reads and writes (10_state.md R20, R26) -/

/-- A TDES command is a matter of its request and the TDES sub-engine alone: whatever else the state holds, these two fix
its response, and either it writes nothing or it is a `TDES.MAKE_SCHEDULE` of 24 raw bytes. -/
theorem exec_tdes_local {i : Instr} (hi : i.isTdes = true) (r : Request) (e : SubEngine TdesSchedule) :
    (∃ resp, ∀ (s : State) (rest : List HostEvent), s.issued = .command r :: rest → s.tdes = e →
      exec i s = .next (s.deliver resp)) ∨
    ((∃ dir, i = .tdesMakeSchedule dir .raw 24) ∧
      ∀ (s : State) (rest : List HostEvent), s.issued = .command r :: rest →
        exec i s = .next ((s.setTdes (tdesSchedule (r.key.toList.take 24))).deliver (.bare .ok))) := by
  cases i with
  | tdesBlockSize => exact .inl ⟨.scalar 8, fun _ _ h _ => withRequest_of_issued h _⟩
  | tdesMakeSchedule dir ktype klen =>
    by_cases hok : tdesKeyStatus ktype klen = .ok
    · obtain ⟨rfl, rfl⟩ := tdesKeyStatus_ok.1 hok
      exact .inr ⟨⟨dir, rfl⟩, fun _ _ h => exec_tdesMakeSchedule_ok h dir⟩
    · exact .inl ⟨_, fun _ _ h _ => exec_tdesMakeSchedule_error h dir hok⟩
  | tdesEncryptBlock =>
    cases e with
    | uninit => exact .inl ⟨_, fun _ _ h he => (exec_tdesBlock_uninit h he).1⟩
    | ready k => exact .inl ⟨_, fun _ _ h he => (exec_tdesBlock_ready h he).1⟩
  | tdesDecryptBlock =>
    cases e with
    | uninit => exact .inl ⟨_, fun _ _ h he => (exec_tdesBlock_uninit h he).2⟩
    | ready k => exact .inl ⟨_, fun _ _ h he => (exec_tdesBlock_ready h he).2⟩
  | tdesEffectiveStrength klen =>
    by_cases hlen : klen = 24
    · subst hlen
      exact .inl ⟨.scalar _, fun _ _ h _ => withRequest_of_issued h _⟩
    · refine .inl ⟨.bare .wrongLength, fun _ _ h _ => ?_⟩
      simp only [exec, execTdesEffectiveStrength, withRequest_of_issued h, strengthStatus, if_pos hlen, raise_next]
  | serpentBlockSize | serpentMakeSchedule | serpentEncryptBlock | serpentDecryptBlock => cases hi

/-- A SERPENT command is a matter of its request, the variant and the SERPENT sub-engine alone: whatever else the state
holds, these fix its response, and either it writes nothing or it is a `SERPENT.MAKE_SCHEDULE` that passes its checks. -/
theorem exec_serpent_local {i : Instr} (hi : i.isTdes = false) (r : Request) (v : SerpentVariant)
    (e : SubEngine SerpentSchedule) :
    (∃ resp, ∀ (s : State) (rest : List HostEvent), s.issued = .command r :: rest → s.variant = v → s.serpent = e →
      exec i s = .next (s.deliver resp)) ∨
    (∃ dir klen, i = .serpentMakeSchedule dir .raw klen ∧ serpentKeyStatus v .raw klen = .ok ∧
      ∀ (s : State) (rest : List HostEvent), s.issued = .command r :: rest → s.variant = v →
        exec i s = .next ((s.setSerpent (serpentSchedule (r.key.toList.take klen))).deliver (.bare .ok))) := by
  cases i with
  | serpentBlockSize => exact .inl ⟨.scalar 16, fun _ _ h _ _ => withRequest_of_issued h _⟩
  | serpentMakeSchedule dir ktype klen =>
    by_cases hok : serpentKeyStatus v ktype klen = .ok
    · obtain ⟨rfl, -⟩ := serpentKeyStatus_ok hok
      refine .inr ⟨dir, klen, rfl, hok, ?_⟩
      rintro s rest h rfl
      exact exec_serpentMakeSchedule_ok h dir hok
    · refine .inl ⟨.bare (serpentKeyStatus v ktype klen), ?_⟩
      rintro s rest h rfl -
      exact exec_serpentMakeSchedule_error h dir hok
  | serpentEncryptBlock =>
    cases e with
    | uninit => exact .inl ⟨_, fun _ _ h _ he => (exec_serpentBlock_uninit h he).1⟩
    | ready k => exact .inl ⟨_, fun _ _ h _ he => (exec_serpentBlock_ready h he).1⟩
  | serpentDecryptBlock =>
    cases e with
    | uninit => exact .inl ⟨_, fun _ _ h _ he => (exec_serpentBlock_uninit h he).2⟩
    | ready k => exact .inl ⟨_, fun _ _ h _ he => (exec_serpentBlock_ready h he).2⟩
  | tdesBlockSize | tdesMakeSchedule | tdesEncryptBlock | tdesDecryptBlock | tdesEffectiveStrength => cases hi

/-- Everything a presented command can do to the state: deliver a response and write nothing, or be the one
`MAKE_SCHEDULE` of its sub-engine that writes. -/
theorem exec_cases (i : Instr) {s : State} {r : Request} {rest : List HostEvent} (h : s.issued = .command r :: rest) :
    (∃ resp, exec i s = .next (s.deliver resp)) ∨
    (∃ dir, i = .tdesMakeSchedule dir .raw 24 ∧
      exec i s = .next ((s.setTdes (tdesSchedule (r.key.toList.take 24))).deliver (.bare .ok))) ∨
    (∃ dir klen, i = .serpentMakeSchedule dir .raw klen ∧ serpentKeyStatus s.variant .raw klen = .ok ∧
      exec i s = .next ((s.setSerpent (serpentSchedule (r.key.toList.take klen))).deliver (.bare .ok))) := by
  cases hi : i.isTdes with
  | true =>
    obtain ⟨resp, he⟩ | ⟨⟨dir, hdir⟩, he⟩ := exec_tdes_local hi r s.tdes
    · exact .inl ⟨resp, he s rest h rfl⟩
    · exact .inr (.inl ⟨dir, hdir, he s rest h⟩)
  | false =>
    obtain ⟨resp, he⟩ | ⟨dir, klen, hdir, hok, he⟩ := exec_serpent_local hi r s.variant s.serpent
    · exact .inl ⟨resp, he s rest h rfl rfl⟩
    · exact .inr (.inr ⟨dir, klen, hdir, hok, he s rest h rfl⟩)

/-- Settles O25, by what a presented command can do. -/
theorem onlyMakeScheduleWritesASchedule : Obligations.OnlyMakeScheduleWritesASchedule := by
  intro i s t ht
  obtain ⟨r, rest, h⟩ := exec_next ht
  obtain ⟨resp, he⟩ | ⟨dir, hi, he⟩ | ⟨dir, klen, hi, -, he⟩ := exec_cases i h <;>
    obtain rfl := Host.Outcome.next.inj (he.symm.trans ht)
  · exact ⟨rfl, rfl, resp, rfl, fun hne => absurd rfl hne, fun hne => absurd rfl hne⟩
  · exact ⟨rfl, rfl, .bare .ok, rfl, fun _ => ⟨rfl, dir, hi⟩, fun hne => absurd rfl hne⟩
  · exact ⟨rfl, rfl, .bare .ok, rfl, fun hne => absurd rfl hne, fun _ => ⟨rfl, dir, klen, hi⟩⟩

/-- Settles O26: a command is a matter of its own sub-engine alone. -/
theorem subEnginesShareNoState : Obligations.SubEnginesShareNoState := by
  intro i s t ht
  obtain ⟨r, rest, h⟩ := exec_next ht
  refine ⟨fun hi => ?_, fun hi => ?_⟩
  · obtain ⟨resp, he⟩ | ⟨-, he⟩ := exec_tdes_local hi r s.tdes
    · obtain rfl := Host.Outcome.next.inj ((he s rest h rfl).symm.trans ht)
      exact ⟨rfl, fun e => he { s with serpent := e } rest h rfl⟩
    · obtain rfl := Host.Outcome.next.inj ((he s rest h).symm.trans ht)
      exact ⟨rfl, fun e => he { s with serpent := e } rest h⟩
  · obtain ⟨resp, he⟩ | ⟨dir, klen, -, -, he⟩ := exec_serpent_local hi r s.variant s.serpent
    · obtain rfl := Host.Outcome.next.inj ((he s rest h rfl rfl).symm.trans ht)
      exact ⟨rfl, fun e => he { s with tdes := e } rest h rfl rfl⟩
    · obtain rfl := Host.Outcome.next.inj ((he s rest h rfl).symm.trans ht)
      exact ⟨rfl, fun e => he { s with tdes := e } rest h rfl⟩

/-! ### The invariant (10_state.md R22) -/

/-- Settles O29: neither sub-engine is ready and no response is delivered. -/
theorem invariantHoldsAtReset : Obligations.InvariantHoldsAtReset := by
  intro v
  constructor <;> simp

/-- What a command writes keeps the invariant: each register file it can write is the schedule of an accepted key. -/
theorem Effect.inv {s u : State} (he : Effect s u) (hs : s.Inv) : u.Inv := by
  obtain ⟨htdes, hserpent, hresponses⟩ := hs
  cases he with
  | nothing => exact ⟨htdes, hserpent, hresponses⟩
  | tdes key hlen =>
    refine ⟨?_, hserpent, hresponses⟩
    rintro k ⟨⟩
    exact ⟨key, hlen, rfl⟩
  | serpent key hok =>
    refine ⟨htdes, ?_, hresponses⟩
    rintro k ⟨⟩
    exact ⟨key, hok, rfl⟩

/-- Delivering a proper response keeps the invariant. -/
theorem inv_deliver {s : State} {resp : Response} (hs : s.Inv) (hresp : resp.Proper) : (s.deliver resp).Inv := by
  refine ⟨hs.tdes, hs.serpent, fun r hr => ?_⟩
  rw [deliver_responses, List.mem_append, List.mem_singleton] at hr
  obtain hold | rfl := hr
  · exact hs.responses r hold
  · exact hresp

/-- A reset keeps the invariant: it leaves no sub-engine ready. -/
theorem inv_takeReset {s : State} (hs : s.Inv) : s.takeReset.Inv := by
  refine ⟨?_, ?_, hs.responses⟩ <;> simp

/-- From a state of the invariant a step answers a next state of the invariant. -/
theorem step_inv {s : State} (hs : s.Inv) : ∃ t, step s = .next t ∧ t.Inv := by
  obtain ⟨-, he⟩ | ⟨rest, -, he⟩ | ⟨r, rest, e, -, -, he⟩ | ⟨r, rest, i, h, -, he⟩ := step_cases s
  · exact ⟨s, he, hs⟩
  · exact ⟨_, he, inv_takeReset hs⟩
  · exact ⟨_, he, inv_deliver hs (bare_proper _)⟩
  · obtain ⟨u, resp, heffect, hproper, hexec⟩ := exec_effect i h
    exact ⟨_, he.trans hexec, inv_deliver (heffect.inv hs) hproper⟩

/-- Settles O30, by what a step can do. -/
theorem everyStepKeepsTheInvariant : Obligations.EveryStepKeepsTheInvariant := by
  intro s hs
  obtain ⟨t, ht, hinv⟩ := step_inv hs
  refine ⟨⟨t, ht⟩, fun t' ht' => ?_⟩
  obtain rfl := Host.Outcome.next.inj (ht.symm.trans ht')
  exact hinv

/-- A round key's two words hold 24 bits each (40_tdes_keyschedule.md R86). -/
theorem halfWords_upper_zero (K : BitVec 48) : ∀ w ∈ halfWords K, w.extractLsb' 24 8 = 0 := by
  have hzero : ∀ x : BitVec 24, (x.setWidth 32).extractLsb' 24 8 = 0 := by
    intro x
    apply BitVec.eq_of_getLsbD_eq
    intro j _
    simp
  simp [halfWords, hzero]

/-- Every word of a set holds 24 bits (10_state.md R21, R22). -/
theorem keySet_upper_zero (third : BitVec 64) (n : Fin 32) : ((keySet third)[n.val]).extractLsb' 24 8 = 0 := by
  have hmem : (keySet third)[n.val] ∈ keySetWords third := by
    rw [← keySet_toList, Vector.mem_toList_iff]
    exact Vector.getElem_mem n.isLt
  obtain ⟨K, -, hK⟩ := List.mem_flatMap.1 hmem
  exact halfWords_upper_zero K _ hK

/-- Settles O31: a ready `TDES.KS` is three sets of 24-bit words. -/
theorem readyTdesWordsFitTwentyFourBits : Obligations.ReadyTdesWordsFitTwentyFourBits := by
  intro s k hs hk i n
  obtain ⟨key, -, rfl⟩ := hs.tdes k hk
  match i with
  | 0 | 1 | 2 => exact keySet_upper_zero _ n

/-! ### Waiting (70_reset_and_hazards.md R232) -/

/-- With nothing issued the engine waits. -/
theorem step_of_idle {s : State} (h : s.issued = []) : step s = .next s := by simp only [step, h]

/-- Settles O9: the fields of the reset state, and the step that waits. -/
theorem resetStateHoldsNoScheduleAndWaits : Obligations.ResetStateHoldsNoScheduleAndWaits :=
  ⟨fun _ => ⟨rfl, rfl, rfl, rfl, rfl⟩, rfl, fun _ => step_of_idle⟩

/-! ### Sessions (10_state.md R26, 20_memory.md R50) -/

/-- A run of any machine goes on from the state its first step answers. -/
theorem run_succ {M : Host.Core} {s t : M.State} (h : M.step s = .next t) (k : Nat) : M.run (k + 1) s = M.run k t := by
  rw [Host.Core.run, h]

theorem runSteps_succ {s t : State} (h : step s = .next t) (k : Nat) : runSteps (k + 1) s = runSteps k t :=
  run_succ (M := core) h k

/-- A property that each of the events `mid` keeps in its one step holds when the run has taken them all, and the run
goes on from there. -/
theorem runSteps_keeps {P : State → Prop} {tail : List HostEvent} (k : Nat) :
    ∀ (mid : List HostEvent) (s : State), s.issued = mid ++ tail → P s →
      (∀ e ∈ mid, ∀ (s : State) (rest : List HostEvent), s.issued = e :: rest → P s →
        ∃ t, step s = .next t ∧ t.issued = rest ∧ P t) →
      ∃ t, t.issued = tail ∧ P t ∧ runSteps (mid.length + k) s = runSteps k t
  | [], s, hs, hP, _ => ⟨s, hs, hP, by rw [List.length_nil, Nat.zero_add]⟩
  | e :: mid, s, hs, hP, hkeep => by
    obtain ⟨t, hstep, ht, hPt⟩ := hkeep e List.mem_cons_self s _ hs hP
    obtain ⟨u, hu, hPu, hrun⟩ :=
      runSteps_keeps k mid t ht hPt fun e he => hkeep e (List.mem_cons_of_mem _ he)
    refine ⟨u, hu, hPu, ?_⟩
    rw [List.length_cons, Nat.add_right_comm, runSteps_succ hstep, hrun]

/-- A session: the first event brings `P` about, every event between keeps it, and the last, taken in a state of `P`,
is answered `resp`. -/
theorem session_answers {P : State → Prop} {s s₁ : State} {mid : List HostEvent} {last : HostEvent} {resp : Response}
    (hfirst : step s = .next s₁) (hissued : s₁.issued = mid ++ [last]) (hP : P s₁)
    (hkeep : ∀ e ∈ mid, ∀ (s : State) (rest : List HostEvent), s.issued = e :: rest → P s →
      ∃ t, step s = .next t ∧ t.issued = rest ∧ P t)
    (hlast : ∀ s : State, s.issued = [last] → P s → step s = .next (s.deliver resp)) :
    ∃ t, runSteps (mid.length + 2) s = .next t ∧ t.issued = [] ∧ t.responses.getLast? = some resp := by
  obtain ⟨u, hu, hPu, hrun⟩ := runSteps_keeps 1 mid s₁ hissued hP hkeep
  refine ⟨u.deliver resp, ?_, by simp [hu], by simp⟩
  calc runSteps (mid.length + 2) s
      = runSteps (mid.length + 1) s₁ := runSteps_succ hfirst _
    _ = runSteps 1 u := hrun
    _ = runSteps 0 (u.deliver resp) := runSteps_succ (hlast u hu hPu) 0
    _ = .next (u.deliver resp) := rfl

/-- Everything a step that takes a command can do to the state: deliver a response and write nothing, or be the one
`MAKE_SCHEDULE` of its sub-engine that writes. -/
theorem step_command_cases {s : State} {r : Request} {rest : List HostEvent} (h : s.issued = .command r :: rest) :
    (∃ resp, step s = .next (s.deliver resp)) ∨
    (∃ dir, decode r.word = .ok (.tdesMakeSchedule dir .raw 24) ∧
      step s = .next ((s.setTdes (tdesSchedule (r.key.toList.take 24))).deliver (.bare .ok))) ∨
    (∃ dir klen, decode r.word = .ok (.serpentMakeSchedule dir .raw klen) ∧
      serpentKeyStatus s.variant .raw klen = .ok ∧
      step s = .next ((s.setSerpent (serpentSchedule (r.key.toList.take klen))).deliver (.bare .ok))) := by
  cases hd : decode r.word with
  | error e => exact .inl ⟨.bare .illegalCommand, by simp only [step, h, hd, raise_next]⟩
  | ok i =>
    rw [step_of_decode_ok h hd]
    obtain hw | ⟨dir, rfl, he⟩ | ⟨dir, klen, rfl, hok, he⟩ := exec_cases i h
    · exact .inl hw
    · exact .inr (.inl ⟨dir, rfl, he⟩)
    · exact .inr (.inr ⟨dir, klen, rfl, hok, he⟩)

/-- A command that is no `TDES.MAKE_SCHEDULE` of 24 raw bytes is taken and leaves TDES as it was. -/
theorem step_keeps_tdes {s : State} {r : Request} {rest : List HostEvent} (h : s.issued = .command r :: rest)
    (hr : ∀ d, decode r.word ≠ .ok (.tdesMakeSchedule d .raw 24)) :
    ∃ t, step s = .next t ∧ t.issued = rest ∧ t.tdes = s.tdes := by
  obtain ⟨resp, he⟩ | ⟨dir, hd, -⟩ | ⟨dir, klen, -, -, he⟩ := step_command_cases h
  · exact ⟨_, he, by simp [h], rfl⟩
  · exact absurd hd (hr dir)
  · exact ⟨_, he, by simp [h], rfl⟩

/-- A command that is no `SERPENT.MAKE_SCHEDULE` passing its checks is taken and leaves SERPENT, and the variant, as they
were. -/
theorem step_keeps_serpent {s : State} {r : Request} {rest : List HostEvent} (h : s.issued = .command r :: rest)
    (hr : ∀ d kt n, decode r.word = .ok (.serpentMakeSchedule d kt n) → serpentKeyStatus s.variant kt n ≠ .ok) :
    ∃ t, step s = .next t ∧ t.issued = rest ∧ t.variant = s.variant ∧ t.serpent = s.serpent := by
  obtain ⟨resp, he⟩ | ⟨dir, -, he⟩ | ⟨dir, klen, hd, hok, -⟩ := step_command_cases h
  · exact ⟨_, he, by simp [h], rfl, rfl⟩
  · exact ⟨_, he, by simp [h], rfl, rfl⟩
  · exact absurd hok (hr dir .raw klen hd)

section sessions
variable {s : State} {r0 r1 : Request} {mid : List HostEvent} {dir : Direction} {klen : Nat} {resp : Response}
  (h : s.issued = .command r0 :: (mid ++ [.command r1]))
include h

/-- A TDES session: the first command makes TDES ready under its key, the commands between keep that, and the last is
answered as a TDES ready under that key answers it. -/
theorem tdesSession_answers (hd0 : decode r0.word = .ok (.tdesMakeSchedule dir .raw 24))
    (hmid : ∀ e ∈ mid, ∃ r, e = .command r ∧ ∀ d, decode r.word ≠ .ok (.tdesMakeSchedule d .raw 24))
    (hlast : ∀ u : State, u.issued = [.command r1] → u.tdes = .ready (tdesSchedule (r0.key.toList.take 24)) →
      step u = .next (u.deliver resp)) :
    ∃ t, runSteps (mid.length + 2) s = .next t ∧ t.issued = [] ∧ t.responses.getLast? = some resp := by
  refine session_answers ((step_of_decode_ok h hd0).trans (exec_tdesMakeSchedule_ok h dir)) (congrArg List.tail h)
    (P := fun u => u.tdes = .ready (tdesSchedule (r0.key.toList.take 24))) rfl ?_ hlast
  intro e he u rest hu htdes
  obtain ⟨r, rfl, hr⟩ := hmid e he
  obtain ⟨t, hstep, ht, hkept⟩ := step_keeps_tdes hu hr
  exact ⟨t, hstep, ht, hkept.trans htdes⟩

/-- A SERPENT session, likewise; the commands between keep the variant as well, on which their checks depend. -/
theorem serpentSession_answers (hd0 : decode r0.word = .ok (.serpentMakeSchedule dir .raw klen))
    (hok : serpentKeyStatus s.variant .raw klen = .ok)
    (hmid : ∀ e ∈ mid, ∃ r, e = .command r ∧ ∀ d kt n, decode r.word = .ok (.serpentMakeSchedule d kt n) →
      serpentKeyStatus s.variant kt n ≠ .ok)
    (hlast : ∀ u : State, u.issued = [.command r1] → u.serpent = .ready (serpentSchedule (r0.key.toList.take klen)) →
      step u = .next (u.deliver resp)) :
    ∃ t, runSteps (mid.length + 2) s = .next t ∧ t.issued = [] ∧ t.responses.getLast? = some resp := by
  refine session_answers ((step_of_decode_ok h hd0).trans (exec_serpentMakeSchedule_ok h dir hok))
    (congrArg List.tail h)
    (P := fun u => u.variant = s.variant ∧ u.serpent = .ready (serpentSchedule (r0.key.toList.take klen)))
    ⟨rfl, rfl⟩ ?_ fun u hu hready => hlast u hu hready.2
  rintro e he u rest hu ⟨hvariant, hserpent⟩
  obtain ⟨r, rfl, hr⟩ := hmid e he
  rw [← hvariant] at hr
  obtain ⟨t, hstep, ht, hkeptVariant, hkept⟩ := step_keeps_serpent hu hr
  exact ⟨t, hstep, ht, hkeptVariant.trans hvariant, hkept.trans hserpent⟩

end sessions

/-- Settles O32: a session whose last command is either TDES block command. -/
theorem tdesSessionUsesTheLastSchedule : Obligations.TdesSessionUsesTheLastSchedule := by
  intro s r0 r1 mid dir h hd0 hmid
  refine ⟨fun hd1 => ?_, fun hd1 => ?_⟩
  · exact tdesSession_answers h hd0 hmid fun u hu htdes =>
      (step_of_decode_ok hu hd1).trans (exec_tdesBlock_ready hu htdes).1
  · exact tdesSession_answers h hd0 hmid fun u hu htdes =>
      (step_of_decode_ok hu hd1).trans (exec_tdesBlock_ready hu htdes).2

/-- Settles O33: a session whose last command is either SERPENT block command. -/
theorem serpentSessionUsesTheLastSchedule : Obligations.SerpentSessionUsesTheLastSchedule := by
  intro s r0 r1 mid dir klen h hd0 hok hmid
  refine ⟨fun hd1 => ?_, fun hd1 => ?_⟩
  · exact serpentSession_answers h hd0 hok hmid fun u hu hserpent =>
      (step_of_decode_ok hu hd1).trans (exec_serpentBlock_ready hu hserpent).1
  · exact serpentSession_answers h hd0 hok hmid fun u hu hserpent =>
      (step_of_decode_ok hu hd1).trans (exec_serpentBlock_ready hu hserpent).2

end Sys2Proof.Machine
end

section
/-! PROOFS. The statements of 20_memory.md: what a command reads of its ports, the order of commands to different
sub-engines, and the byte orders of both block ports. -/

namespace Sys2Proof.Machine

/-! ### Operand bytes (20_memory.md R40, R48) -/

section operands
variable {s s' : State} {r r' : Request} {rest : List HostEvent} (h : s.issued = .command r :: rest)
  (h' : s'.issued = .command r' :: rest) (hs : { s with issued := rest } = { s' with issued := rest })
include h h' hs

/-- How a command ends does not depend on which command it was: the command is taken away. -/
theorem deliver_eq_of_rest_eq (resp : Response) : s.deliver resp = s'.deliver resp := by
  rw [deliver_of_issued h, deliver_of_issued h']
  exact congrArg (fun t : State => { t with responses := t.responses ++ [resp] }) hs

/-- The TDES block commands read eight bytes of the block port. -/
theorem exec_tdesBlock_congr (hdin : r.din.toList.take 8 = r'.din.toList.take 8) :
    exec .tdesEncryptBlock s = exec .tdesEncryptBlock s' ∧ exec .tdesDecryptBlock s = exec .tdesDecryptBlock s' := by
  obtain ⟨-, htdes, -⟩ := State.mk.inj hs
  cases he : s.tdes with
  | uninit =>
    simp only [exec_tdesBlock_uninit h he, exec_tdesBlock_uninit h' (htdes.symm.trans he),
      deliver_eq_of_rest_eq h h' hs, and_self]
  | ready k =>
    simp only [exec_tdesBlock_ready h he, exec_tdesBlock_ready h' (htdes.symm.trans he), hdin,
      deliver_eq_of_rest_eq h h' hs, and_self]

/-- The SERPENT block commands read sixteen bytes of the block port, which are all it has. -/
theorem exec_serpentBlock_congr (hdin : r.din.toList.take 16 = r'.din.toList.take 16) :
    exec .serpentEncryptBlock s = exec .serpentEncryptBlock s' ∧
    exec .serpentDecryptBlock s = exec .serpentDecryptBlock s' := by
  obtain ⟨-, -, hserpent, -⟩ := State.mk.inj hs
  have hport (r : Request) : r.din.toList.take 16 = r.din.toList := List.take_of_length_le (by simp)
  rw [hport, hport] at hdin
  cases he : s.serpent with
  | uninit =>
    simp only [exec_serpentBlock_uninit h he, exec_serpentBlock_uninit h' (hserpent.symm.trans he),
      deliver_eq_of_rest_eq h h' hs, and_self]
  | ready k =>
    simp only [exec_serpentBlock_ready h he, exec_serpentBlock_ready h' (hserpent.symm.trans he), hdin,
      deliver_eq_of_rest_eq h h' hs, and_self]

/-- `TDES.MAKE_SCHEDULE` reads `KLEN` bytes of the key port. -/
theorem exec_tdesMakeSchedule_congr (dir : Direction) (ktype : KeyType) {klen : Nat}
    (hkey : r.key.toList.take klen = r'.key.toList.take klen) :
    exec (.tdesMakeSchedule dir ktype klen) s = exec (.tdesMakeSchedule dir ktype klen) s' := by
  by_cases hok : tdesKeyStatus ktype klen = .ok
  · obtain ⟨rfl, rfl⟩ := tdesKeyStatus_ok.1 hok
    rw [exec_tdesMakeSchedule_ok h, exec_tdesMakeSchedule_ok h', hkey]
    exact congrArg (fun t : State => (.next (t.setTdes _) : Result)) (deliver_eq_of_rest_eq h h' hs _)
  · rw [exec_tdesMakeSchedule_error h dir hok, exec_tdesMakeSchedule_error h' dir hok, deliver_eq_of_rest_eq h h' hs]

/-- `SERPENT.MAKE_SCHEDULE` reads `KLEN` bytes of the key port. -/
theorem exec_serpentMakeSchedule_congr (dir : Direction) (ktype : KeyType) {klen : Nat}
    (hkey : r.key.toList.take klen = r'.key.toList.take klen) :
    exec (.serpentMakeSchedule dir ktype klen) s = exec (.serpentMakeSchedule dir ktype klen) s' := by
  obtain ⟨hvariant, -⟩ := State.mk.inj hs
  by_cases hok : serpentKeyStatus s.variant ktype klen = .ok
  · obtain ⟨rfl, -⟩ := serpentKeyStatus_ok hok
    rw [exec_serpentMakeSchedule_ok h dir hok, exec_serpentMakeSchedule_ok h' dir (hvariant ▸ hok), hkey]
    exact congrArg (fun t : State => (.next (t.setSerpent _) : Result)) (deliver_eq_of_rest_eq h h' hs _)
  · rw [exec_serpentMakeSchedule_error h dir hok, exec_serpentMakeSchedule_error h' dir (hvariant ▸ hok), hvariant,
      deliver_eq_of_rest_eq h h' hs]

/-- `TDES.EFFECTIVE_STRENGTH` reads `KLEN` bytes of the key port. -/
theorem exec_tdesEffectiveStrength_congr {klen : Nat} (hkey : r.key.toList.take klen = r'.key.toList.take klen) :
    exec (.tdesEffectiveStrength klen) s = exec (.tdesEffectiveStrength klen) s' := by
  simp only [exec, execTdesEffectiveStrength, withRequest_of_issued h, withRequest_of_issued h', Request.keyOperand, hkey,
    completeScalar_next, raise_next, deliver_eq_of_rest_eq h h' hs]

/-- A command answers the same on two requests that agree on the operand bytes it has. -/
theorem exec_congr_of_operands (i : Instr) (hkey : r.key.toList.take i.keyBytes = r'.key.toList.take i.keyBytes)
    (hdin : r.din.toList.take i.dinBytes = r'.din.toList.take i.dinBytes) : exec i s = exec i s' := by
  cases i with
  | tdesBlockSize | serpentBlockSize =>
    simp only [exec, execTdesBlockSize, execSerpentBlockSize, withRequest_of_issued h, withRequest_of_issued h',
      completeScalar_next, deliver_eq_of_rest_eq h h' hs]
  | tdesMakeSchedule dir ktype klen => exact exec_tdesMakeSchedule_congr h h' hs dir ktype hkey
  | tdesEffectiveStrength klen => exact exec_tdesEffectiveStrength_congr h h' hs hkey
  | serpentMakeSchedule dir ktype klen => exact exec_serpentMakeSchedule_congr h h' hs dir ktype hkey
  | tdesEncryptBlock => exact (exec_tdesBlock_congr h h' hs hdin).1
  | tdesDecryptBlock => exact (exec_tdesBlock_congr h h' hs hdin).2
  | serpentEncryptBlock => exact (exec_serpentBlock_congr h h' hs hdin).1
  | serpentDecryptBlock => exact (exec_serpentBlock_congr h h' hs hdin).2

end operands

/-- Settles O28: two states that differ in the presented request only. -/
theorem bytesPastTheOperandAreNeverRead : Obligations.BytesPastTheOperandAreNeverRead :=
  fun i s r r' rest hkey hdin =>
    exec_congr_of_operands (s := { s with issued := .command r :: rest })
      (s' := { s with issued := .command r' :: rest }) rfl rfl rfl i hkey hdin

/-! ### Commands to different sub-engines (20_memory.md R50) -/

/-- A TDES command's request and the TDES sub-engine fix what becomes of that sub-engine and the response, and nothing
else is written. -/
theorem exec_tdes_update {i : Instr} (hi : i.isTdes = true) (r : Request) (e : SubEngine TdesSchedule) :
    ∃ (e' : SubEngine TdesSchedule) (resp : Response), ∀ (s : State) (rest : List HostEvent),
      s.issued = .command r :: rest → s.tdes = e → exec i s = .next (({ s with tdes := e' } : State).deliver resp) := by
  obtain ⟨resp, he⟩ | ⟨-, he⟩ := exec_tdes_local hi r e
  · refine ⟨e, resp, ?_⟩
    rintro s rest h rfl
    exact he s rest h rfl
  · exact ⟨.ready _, .bare .ok, fun s rest h _ => he s rest h⟩

/-- A SERPENT command's request, the variant and the SERPENT sub-engine fix what becomes of that sub-engine and the
response, and nothing else is written. -/
theorem exec_serpent_update {i : Instr} (hi : i.isTdes = false) (r : Request) (v : SerpentVariant)
    (e : SubEngine SerpentSchedule) :
    ∃ (e' : SubEngine SerpentSchedule) (resp : Response), ∀ (s : State) (rest : List HostEvent),
      s.issued = .command r :: rest → s.variant = v → s.serpent = e →
        exec i s = .next (({ s with serpent := e' } : State).deliver resp) := by
  obtain ⟨resp, he⟩ | ⟨_, _, -, -, he⟩ := exec_serpent_local hi r v e
  · refine ⟨e, resp, ?_⟩
    rintro s rest h hv rfl
    exact he s rest h hv rfl
  · exact ⟨.ready _, .bare .ok, fun s rest h hv _ => he s rest h hv⟩

/-- Two steps, each answering a next state, are a run of two. -/
theorem runSteps_two {s t u : State} (hst : step s = .next t) (htu : step t = .next u) : runSteps 2 s = .next u := by
  rw [runSteps_succ hst, runSteps_succ htu]
  rfl

/-- Settles O34: each command reads and writes its own sub-engine, which the other leaves as it was. -/
theorem tdesAndSerpentCommandsCommute : Obligations.TdesAndSerpentCommandsCommute := by
  intro s r1 r2 rest i j hd1 hi hd2 hj
  obtain ⟨e, a, htdes⟩ := exec_tdes_update hi r1 s.tdes
  obtain ⟨f, b, hserpent⟩ := exec_serpent_update hj r2 s.variant s.serpent
  have tdesStep (u : State) (l : List HostEvent) (hu : u.issued = .command r1 :: l) (he : u.tdes = s.tdes) :=
    (step_of_decode_ok hu hd1).trans (htdes u l hu he)
  have serpentStep (u : State) (l : List HostEvent) (hu : u.issued = .command r2 :: l) (hv : u.variant = s.variant)
      (hf : u.serpent = s.serpent) := (step_of_decode_ok hu hd2).trans (hserpent u l hu hv hf)
  refine ⟨{ s with tdes := e, serpent := f }, a, b, ?_, ?_⟩
  · have hfirst := tdesStep { s with issued := .command r1 :: .command r2 :: rest } _ rfl rfl
    rw [runSteps_two hfirst (serpentStep _ rest rfl rfl rfl)]
    simp [State.deliver]
  · have hfirst := serpentStep { s with issued := .command r2 :: .command r1 :: rest } _ rfl rfl rfl
    rw [runSteps_two hfirst (tdesStep _ rest rfl rfl)]
    simp [State.deliver]

/-! ### Byte orders (00_scope.md R13, 20_memory.md R42, R44) -/

/-- A byte that enters a word from below, as in `be64` and `le32`, is the word's low eight bits, and the earlier bits
stand eight places up. -/
theorem enterByte_getLsbD {w : Nat} (acc : BitVec w) (x : Byte) {j : Nat} (hj : j < w) :
    ((acc <<< 8) ||| x.setWidth w).getLsbD j = if j < 8 then x.getLsbD j else acc.getLsbD (j - 8) := by
  rw [BitVec.getLsbD_or, BitVec.getLsbD_shiftLeft, BitVec.getLsbD_setWidth]
  by_cases h : j < 8
  · simp [h, hj]
  · simp [h, hj, BitVec.getLsbD_of_ge x j (by omega)]

/-- What stood in the accumulator of `be64`'s fold stands above the bytes that entered. -/
theorem be64_fold_getLsbD_acc : ∀ (B : List Byte) (acc : BitVec 64) (p : Nat), 8 * B.length + p < 64 →
    (B.foldl (fun (acc : BitVec 64) b => (acc <<< 8) ||| b.setWidth 64) acc).getLsbD (8 * B.length + p) = acc.getLsbD p
  | [], acc, p, _ => by simp
  | x :: B, acc, p, h => by
    rw [List.length_cons] at h ⊢
    rw [List.foldl_cons, show 8 * (B.length + 1) + p = 8 * B.length + (p + 8) by omega,
      be64_fold_getLsbD_acc B _ (p + 8) (by omega), enterByte_getLsbD _ _ (by omega), if_neg (by omega),
      Nat.add_sub_cancel]

/-- In `be64`'s fold byte `b` stands below the bytes before it, the last byte lowest. -/
theorem be64_fold_getLsbD_byte : ∀ (B : List Byte) (acc : BitVec 64) (b : Nat) (hb : b < B.length) (q : Nat), q < 8 →
    8 * B.length ≤ 64 → (B.foldl (fun (acc : BitVec 64) b => (acc <<< 8) ||| b.setWidth 64) acc).getLsbD
      (8 * (B.length - 1 - b) + q) = B[b].getLsbD q
  | x :: B, acc, 0, _, q, hq, h => by
    rw [List.length_cons] at h
    calc _ = ((acc <<< 8) ||| x.setWidth 64).getLsbD q := be64_fold_getLsbD_acc B _ q (by omega)
      _ = x.getLsbD q := by rw [enterByte_getLsbD _ _ (by omega), if_pos hq]
  | x :: B, acc, b + 1, hb, q, hq, h => by
    rw [List.length_cons] at hb h ⊢
    rw [List.foldl_cons, List.getElem_cons_succ, show B.length + 1 - 1 - (b + 1) = B.length - 1 - b by omega]
    exact be64_fold_getLsbD_byte B _ b _ q hq (by omega)

/-- Byte `b` of eight gives bits `63-8b` to `56-8b` of `be64` (00_scope.md R13). -/
theorem be64_getLsbD {B : List Byte} (hB : B.length = 8) {b : Nat} (hb : b < B.length) {q : Nat} (hq : q < 8) :
    (be64 B).getLsbD (56 - 8 * b + q) = B[b].getLsbD q := by
  have hplace : 56 - 8 * b + q = 8 * (B.length - 1 - b) + q := by omega
  rw [hplace]
  exact be64_fold_getLsbD_byte B 0 b hb q hq (by omega)

@[simp] theorem bytesBe_getElem (v : BitVec 64) (b : Nat) (hb : b < (bytesBe v).length) :
    (bytesBe v)[b] = v.extractLsb' (56 - 8 * b) 8 := by simp [bytesBe]

/-- Reading the output bytes of a block gives the block back (20_memory.md R42). -/
theorem be64_bytesBe (v : BitVec 64) : be64 (bytesBe v) = v := by
  apply BitVec.eq_of_getLsbD_eq
  intro j hj
  have hb : 7 - j / 8 < (bytesBe v).length := by rw [bytesBe_length]; omega
  have hq : j % 8 < 8 := Nat.mod_lt _ (by omega)
  have hbit := be64_getLsbD (bytesBe_length v) hb hq
  rw [bytesBe_getElem, BitVec.getLsbD_extractLsb', show 56 - 8 * (7 - j / 8) + j % 8 = j by omega] at hbit
  simpa [hq] using hbit

/-- The output bytes of a block that was read are the bytes read (20_memory.md R42). -/
theorem bytesBe_be64 {B : List Byte} (hB : B.length = 8) : bytesBe (be64 B) = B := by
  refine List.ext_getElem (by rw [bytesBe_length, hB]) fun b _ hb => ?_
  apply BitVec.eq_of_getLsbD_eq
  intro q hq
  rw [bytesBe_getElem, BitVec.getLsbD_extractLsb', be64_getLsbD hB hb hq]
  simp [hq]

/-- In `le32`'s fold byte `b` stands above the bytes before it, byte 0 lowest. -/
theorem le32_fold_getLsbD : ∀ (B : List Byte) (b : Nat) (hb : b < B.length) (q : Nat), q < 8 → 8 * b + q < 32 →
    (B.foldr (fun b (acc : Word) => (acc <<< 8) ||| b.setWidth 32) 0).getLsbD (8 * b + q) = B[b].getLsbD q
  | x :: B, 0, _, q, hq, h => by
    rw [List.foldr_cons, enterByte_getLsbD _ _ h, if_pos (by omega), Nat.mul_zero, Nat.zero_add]
    rfl
  | x :: B, b + 1, hb, q, hq, h => by
    rw [List.foldr_cons, enterByte_getLsbD _ _ h, if_neg (by omega), List.getElem_cons_succ,
      show 8 * (b + 1) + q - 8 = 8 * b + q by omega]
    exact le32_fold_getLsbD B b _ q hq (by omega)

/-- Byte `b` of the four at `a` gives bits `8b+7` to `8b` of `le32` (00_scope.md R13). -/
theorem le32_getLsbD {B : List Byte} {a b q : Nat} (ha : a + 4 ≤ B.length) (hb : b < 4) (hq : q < 8) :
    (le32 B a).getLsbD (8 * b + q) = (B[a + b]).getLsbD q := by
  have hlen : b < (memRead B a 4).length := by rw [memRead_length B a 4 ha]; exact hb
  rw [le32, le32_fold_getLsbD _ b hlen q hq (by omega)]
  simp [memRead]

@[simp] theorem bytesLe_getElem (d : Word) (b : Nat) (hb : b < (bytesLe d).length) :
    (bytesLe d)[b] = d.extractLsb' (8 * b) 8 := by simp [bytesLe]

/-- Reading the four bytes of a word gives the word back (20_memory.md R44). -/
theorem le32_bytesLe (d : Word) : le32 (bytesLe d) 0 = d := by
  apply BitVec.eq_of_getLsbD_eq
  intro j hj
  have hq : j % 8 < 8 := Nat.mod_lt _ (by omega)
  have hbit := le32_getLsbD (B := bytesLe d) (a := 0) (b := j / 8) (by rw [bytesLe_length]) (by omega) hq
  rw [bytesLe_getElem, BitVec.getLsbD_extractLsb', Nat.zero_add, show 8 * (j / 8) + j % 8 = j by omega] at hbit
  simpa [hq] using hbit

/-- The bytes of a word that was read are the bytes read (20_memory.md R44). -/
theorem bytesLe_le32 {B : List Byte} {a : Nat} (ha : a + 4 ≤ B.length) : bytesLe (le32 B a) = memRead B a 4 := by
  refine List.ext_getElem (by rw [bytesLe_length, memRead_length B a 4 ha]) fun b hb _ => ?_
  rw [bytesLe_length] at hb
  apply BitVec.eq_of_getLsbD_eq
  intro q hq
  rw [bytesLe_getElem, BitVec.getLsbD_extractLsb', le32_getLsbD ha hb hq]
  simp [hq, memRead]

/-- Neighbouring reads join to one (20_memory.md R41). -/
theorem memRead_append (A : List Byte) (a m n : Nat) : memRead A a m ++ memRead A (a + m) n = memRead A a (m + n) := by
  rw [memRead, memRead, memRead, List.take_add, List.drop_drop]

/-- Loading a stored block gives its words back (43_serpent_block.md R150). -/
theorem loadQuad_storeQuad (x : Quad) : loadQuad (storeQuad x) = x :=
  quad_ext (le32_bytesLe x.d0) (le32_bytesLe x.d1) (le32_bytesLe x.d2) (le32_bytesLe x.d3)

/-- Storing a loaded block gives its bytes back (43_serpent_block.md R150). -/
theorem storeQuad_loadQuad {B : List Byte} (hB : B.length = 16) : storeQuad (loadQuad B) = B := by
  calc storeQuad (loadQuad B)
      = memRead B 0 4 ++ memRead B 4 4 ++ memRead B 8 4 ++ memRead B 12 4 := by
        rw [storeQuad, loadQuad, bytesLe_le32 (by omega), bytesLe_le32 (by omega), bytesLe_le32 (by omega),
          bytesLe_le32 (by omega)]
    _ = memRead B 0 16 := by rw [memRead_append B 0 4 4, memRead_append B 0 8 4, memRead_append B 0 12 4]
    _ = B := memRead_all B 16 hB

/-- Settles O36: the place of each byte in both orders, and from it the round trips. -/
theorem byteOrdersAreBigForTdesLittleForSerpent : Obligations.ByteOrdersAreBigForTdesLittleForSerpent :=
  ⟨fun _ hB _ hb _ hq => be64_getLsbD hB hb hq, be64_bytesBe, fun _ hB => bytesBe_be64 hB,
    fun _ _ ha _ _ _ hb hq => le32_getLsbD ha hb hq, loadQuad_storeQuad, fun _ hB => storeQuad_loadQuad hB⟩

end Sys2Proof.Machine
end

section
/-! PROOFS. The statements of 30_encoding.md about the command word: each row of the command map is tied to the encoder,
the rows are disjoint, so decoding is the inverse of encoding; and what words are left over. -/

namespace Sys2Proof

/-! ### Fields (30_encoding.md R61, R62) -/

/-- A word with no reserved bit set is what its own fields assemble to. -/
theorem assemble_of_reserved_zero {c : Word} (hlow : c.reservedLow = 0) (hhigh : c.reservedHigh = 0) :
    assemble c.op c.eng c.dir c.ktype c.klen = c := by
  rw [word_eq_iff_fields]
  simp [assemble_fields, hlow, hhigh]

@[simp] theorem Direction.bit_ofBit (b : BitVec 1) : (Direction.ofBit b).bit = b := by revert b; decide
@[simp] theorem Direction.ofBit_bit (d : Direction) : Direction.ofBit d.bit = d := by cases d <;> rfl
@[simp] theorem KeyType.bit_ofBit (b : BitVec 1) : (KeyType.ofBit b).bit = b := by revert b; decide
@[simp] theorem KeyType.ofBit_bit (k : KeyType) : KeyType.ofBit k.bit = k := by cases k <;> rfl

/-- What the field `KLEN` holds is a legal key length. -/
theorem klen_le_maxKeyLength (c : Word) : c.klen.toNat ≤ maxKeyLength := Nat.le_of_lt_succ c.klen.isLt

/-- A legal key length is read back from its field. -/
theorem klen_toNat_ofNat {klen : Nat} (h : klen ≤ maxKeyLength) : (BitVec.ofNat 8 klen).toNat = klen :=
  Nat.mod_eq_of_lt (Nat.lt_succ_of_le h)

/-! ### The rows against the encoder (30_encoding.md R61, R63) -/

/-- A `MAKE_SCHEDULE` row selects by `OP`, `ENG` and the reserved bits. -/
theorem selects_makeRow (eng : BitVec 1) {c p : Word} {build : Word → Instr} (hp : p = assemble 1 eng 0 0 0) :
    (⟨p, 0xFFFF00CF, build⟩ : Row).selects c = true ↔
      c.op = 1 ∧ c.eng = eng ∧ c.reservedLow = 0 ∧ c.reservedHigh = 0 := by
  obtain ⟨hop, heng, hdir, hktype, hlow, hklen, hhigh⟩ := assemble_fields 1 eng 0 0 0
  rw [Row.selects, beq_iff_eq, hp, selects_make _ _ ⟨hdir, hktype, hklen, hlow, hhigh⟩, hop, heng]

/-- The `EFFECTIVE_STRENGTH` row selects by everything but `KLEN`. -/
theorem selects_strengthRow {c : Word} {build : Word → Instr} :
    (⟨4, 0xFFFF00FF, build⟩ : Row).selects c = true ↔
      c.op = 4 ∧ c.eng = 0 ∧ c.dir = 0 ∧ c.ktype = 0 ∧ c.reservedLow = 0 ∧ c.reservedHigh = 0 :=
  beq_iff_eq.trans (selects_strength c 4 (by decide))

/-- Every well-formed command is built by a row that its encoding selects. -/
theorem exists_row_of_wellFormed {i : Instr} (hi : i.wellFormed = true) :
    ∃ row ∈ commandMap, row.selects (encode i) = true ∧ row.build (encode i) = i := by
  cases i with
  | tdesBlockSize => exact ⟨commandMap[0], List.getElem_mem _, by decide, rfl⟩
  | tdesMakeSchedule dir ktype klen =>
    refine ⟨commandMap[1], List.getElem_mem _, (selects_makeRow 0 (by decide)).2 (by simp [encode, assemble_fields]), ?_⟩
    simp [commandMap, encode, assemble_fields, klen_toNat_ofNat (of_decide_eq_true hi)]
  | tdesEncryptBlock => exact ⟨commandMap[2], List.getElem_mem _, by decide, rfl⟩
  | tdesDecryptBlock => exact ⟨commandMap[3], List.getElem_mem _, by decide, rfl⟩
  | tdesEffectiveStrength klen =>
    refine ⟨commandMap[4], List.getElem_mem _, selects_strengthRow.2 (by simp [encode, assemble_fields]), ?_⟩
    simp [commandMap, encode, assemble_fields, klen_toNat_ofNat (of_decide_eq_true hi)]
  | serpentBlockSize => exact ⟨commandMap[5], List.getElem_mem _, by decide, rfl⟩
  | serpentMakeSchedule dir ktype klen =>
    refine ⟨commandMap[6], List.getElem_mem _, (selects_makeRow 1 (by decide)).2 (by simp [encode, assemble_fields]), ?_⟩
    simp [commandMap, encode, assemble_fields, klen_toNat_ofNat (of_decide_eq_true hi)]
  | serpentEncryptBlock => exact ⟨commandMap[7], List.getElem_mem _, by decide, rfl⟩
  | serpentDecryptBlock => exact ⟨commandMap[8], List.getElem_mem _, by decide, rfl⟩

/-- A row without free fields builds the command of which every word that selects it is the encoding. -/
theorem encode_of_selects_whole {c p : Word} {i : Instr} (hi : i.wellFormed = true ∧ encode i = p)
    (hc : (⟨p, 0xFFFFFFFF, fun _ => i⟩ : Row).selects c = true) : i.wellFormed = true ∧ encode i = c := by
  obtain rfl : c = p := of_decide_eq_true ((selects_whole c p).symm.trans hc)
  exact hi

/-- Every row builds, from a word that selects it, a well-formed command of which that word is the encoding. -/
theorem encode_build {c : Word} : ∀ row ∈ commandMap, row.selects c = true →
    (row.build c).wellFormed = true ∧ encode (row.build c) = c := by
  have hklen : decide (c.klen.toNat ≤ maxKeyLength) = true := decide_eq_true (klen_le_maxKeyLength c)
  rw [commandMap]
  simp only [List.forall_mem_cons]
  refine ⟨encode_of_selects_whole (by decide), fun hsel => ⟨hklen, ?_⟩, encode_of_selects_whole (by decide),
    encode_of_selects_whole (by decide), fun hsel => ⟨hklen, ?_⟩, encode_of_selects_whole (by decide),
    fun hsel => ⟨hklen, ?_⟩, encode_of_selects_whole (by decide), encode_of_selects_whole (by decide),
    List.forall_mem_nil _⟩ <;> rw [word_eq_iff_fields]
  · simp [encode, assemble_fields, (selects_makeRow 0 (by decide)).1 hsel]
  · simp [encode, assemble_fields, selects_strengthRow.1 hsel]
  · simp [encode, assemble_fields, (selects_makeRow 1 (by decide)).1 hsel]

/-! ### The rows are disjoint (30_encoding.md R64) -/

/-- Two rows clash when their patterns differ in a bit that both masks look at. -/
def Row.clashes (r r' : Row) : Prop := r.pattern &&& r'.mask ≠ r'.pattern &&& r.mask

/-- No word selects two rows that clash. -/
theorem Row.clashes.not_both {r r' : Row} (h : r.clashes r') {c : Word} :
    ¬(r.selects c = true ∧ r'.selects c = true) := by
  rintro ⟨hr, hr'⟩
  apply h
  calc r.pattern &&& r'.mask
      = c &&& r.mask &&& r'.mask := by rw [eq_of_beq hr]
    _ = c &&& r'.mask &&& r.mask := by rw [BitVec.and_assoc, BitVec.and_comm r.mask, BitVec.and_assoc]
    _ = r'.pattern &&& r.mask := by rw [eq_of_beq hr']

/-- Any two rows of the map clash (30_encoding.md R64). -/
theorem commandMap_clashes : commandMap.Pairwise Row.clashes := by
  unfold Row.clashes
  decide

/-- The row that a word selects is the only one. -/
theorem row_unique {c : Word} {r r' : Row} (hr : r ∈ commandMap) (hr' : r' ∈ commandMap)
    (hsel : r.selects c = true) (hsel' : r'.selects c = true) : r = r' := by
  by_contra hne
  have : Std.Symm Row.clashes := ⟨fun _ _ h => h.symm⟩
  exact (commandMap_clashes.forall hr hr' hne).not_both ⟨hsel, hsel'⟩

/-- No word selects two rows, counted by their places in the map. -/
theorem selectedRows_length_le_one (c : Word) : (commandMap.filter (·.selects c)).length ≤ 1 := by
  have hclash : (commandMap.filter (·.selects c)).Pairwise Row.clashes := commandMap_clashes.filter _
  have hsel : ∀ r ∈ commandMap.filter (·.selects c), r.selects c = true := fun r hr => (List.mem_filter.1 hr).2
  match hrows : commandMap.filter (·.selects c) with
  | [] | [_] => simp [hrows]
  | r :: r' :: rows =>
    rw [hrows] at hclash hsel
    exact absurd ⟨hsel r (by simp), hsel r' (by simp)⟩ (List.rel_of_pairwise_cons hclash (by simp)).not_both

/-! ### What the decoder answers (30_encoding.md R64, R68) -/

/-- The decoder answers the command that the selected row builds. -/
theorem decode_ok_iff_row {c : Word} {i : Instr} :
    decode c = .ok i ↔ ∃ row ∈ commandMap, row.selects c = true ∧ row.build c = i := by
  unfold decode
  cases hfind : commandMap.find? (·.selects c) with
  | none =>
    have hnone := List.find?_eq_none.1 hfind
    refine ⟨nofun, ?_⟩
    rintro ⟨row, hrow, hsel, -⟩
    exact absurd hsel (hnone row hrow)
  | some row =>
    have hrow := List.mem_of_find?_eq_some hfind
    have hsel : row.selects c = true := List.find?_some (p := fun row : Row => row.selects c) hfind
    constructor
    · rintro ⟨⟩
      exact ⟨row, hrow, hsel, rfl⟩
    · rintro ⟨row', hrow', hsel', rfl⟩
      rw [row_unique hrow hrow' hsel hsel']

/-- The words that decode to a command: its encoding alone, where the command is well-formed. -/
theorem decode_ok_iff_encode {c : Word} {i : Instr} : decode c = .ok i ↔ i.wellFormed = true ∧ encode i = c := by
  rw [decode_ok_iff_row]
  constructor
  · rintro ⟨row, hrow, hsel, rfl⟩
    exact encode_build row hrow hsel
  · rintro ⟨hi, rfl⟩
    exact exists_row_of_wellFormed hi

/-- A word is illegal where it decodes to no command. -/
theorem decode_error_iff {c : Word} : (∃ e, decode c = .error e) ↔ ¬∃ i, decode c = .ok i := by
  cases decode c <;> simp

/-- Settles O1: the encoding of a command is a word that decodes to it. -/
theorem decodeOfEncodeIsTheCommand : Obligations.DecodeOfEncodeIsTheCommand :=
  fun _ hi => decode_ok_iff_encode.2 ⟨hi, rfl⟩

/-- Settles O2: a word that decodes to a command is its encoding. -/
theorem encodeOfDecodeIsTheWord : Obligations.EncodeOfDecodeIsTheWord :=
  fun _ _ hd => decode_ok_iff_encode.1 hd

/-- Settles O3: a word selects at most one row, and decodes where it selects one. -/
theorem everyWordSelectsOneRowOrIsIllegal : Obligations.EveryWordSelectsOneRowOrIsIllegal := by
  intro c
  have hone := selectedRows_length_le_one c
  by_cases hrow : ∃ row ∈ commandMap, row.selects c = true
  · obtain ⟨row, hmem, hsel⟩ := hrow
    have hpos : 0 < (commandMap.filter (·.selects c)).length :=
      List.length_pos_of_mem (List.mem_filter.2 ⟨hmem, hsel⟩)
    exact .inl ⟨by omega, _, decode_ok_iff_row.2 ⟨row, hmem, hsel, rfl⟩⟩
  · refine .inr ⟨?_, decode_error_iff.2 ?_⟩
    · rw [List.length_eq_zero_iff, List.filter_eq_nil_iff]
      exact fun row hmem hsel => hrow ⟨row, hmem, hsel⟩
    · rintro ⟨i, hd⟩
      obtain ⟨row, hmem, hsel, -⟩ := decode_ok_iff_row.1 hd
      exact hrow ⟨row, hmem, hsel⟩

/-! ### Legal words by their fields (30_encoding.md R67) -/

/-- A word with every reserved field zero and its `OP` in use, in the order of 30_encoding.md R67. -/
structure Word.Legal (c : Word) : Prop where
  reservedLow : c.reservedLow = 0
  reservedHigh : c.reservedHigh = 0
  op : c.op.toNat < 5
  strength : c.op = 4 → ¬c.eng = 1
  flags : c.op ≠ 1 → c.dir = 0 ∧ c.ktype = 0
  klen : c.op ≠ 1 → c.op ≠ 4 → c.klen = 0

/-- The encoder sets no reserved field. -/
theorem legal_encode (i : Instr) : (encode i).Legal := by
  cases i <;> constructor <;> simp [encode, assemble_fields]

/-- The values of `OP` whose commands have no key operand (30_encoding.md R61). -/
theorem op_keyless_cases : ∀ {op : BitVec 3}, op.toNat < 5 → op ≠ 1 → op ≠ 4 → op = 0 ∨ op = 2 ∨ op = 3 := by decide

/-- `ENG` names one of two sub-engines (30_encoding.md R61). -/
theorem eng_cases : ∀ eng : BitVec 1, eng = 0 ∨ eng = 1 := by decide

/-- A legal word decodes to the well-formed command whose encoding has its fields. -/
theorem decode_of_assemble {c : Word} {i : Instr} (hi : i.wellFormed = true)
    (hc : encode i = assemble c.op c.eng c.dir c.ktype c.klen) (hlegal : c.Legal) : decode c = .ok i :=
  decode_ok_iff_encode.2 ⟨hi, hc.trans (assemble_of_reserved_zero hlegal.reservedLow hlegal.reservedHigh)⟩

/-- A legal word decodes: `OP` and `ENG` name the command. -/
theorem exists_decode_of_legal {c : Word} (h : c.Legal) : ∃ i, decode c = .ok i := by
  have hlength : decide (c.klen.toNat ≤ maxKeyLength) = true := decide_eq_true (klen_le_maxKeyLength c)
  by_cases hmake : c.op = 1
  · rcases eng_cases c.eng with heng | heng
    · exact ⟨.tdesMakeSchedule (.ofBit c.dir) (.ofBit c.ktype) c.klen.toNat,
        decode_of_assemble hlength (by simp [encode, hmake, heng]) h⟩
    · exact ⟨.serpentMakeSchedule (.ofBit c.dir) (.ofBit c.ktype) c.klen.toNat,
        decode_of_assemble hlength (by simp [encode, hmake, heng]) h⟩
  obtain ⟨hdir, hktype⟩ := h.flags hmake
  by_cases hstrength : c.op = 4
  · have heng : c.eng = 0 := (eng_cases c.eng).resolve_right (h.strength hstrength)
    exact ⟨.tdesEffectiveStrength c.klen.toNat,
      decode_of_assemble hlength (by simp [encode, hstrength, heng, hdir, hktype]) h⟩
  have hklen := h.klen hmake hstrength
  have hcode (i : Instr) (hi : i.wellFormed = true) (hc : encode i = assemble c.op c.eng 0 0 0) : decode c = .ok i :=
    decode_of_assemble hi (by rw [hc, hdir, hktype, hklen]) h
  rcases op_keyless_cases h.op hmake hstrength with hop | hop | hop <;> rcases eng_cases c.eng with heng | heng <;>
    rw [hop, heng] at hcode
  · exact ⟨_, hcode .tdesBlockSize rfl rfl⟩
  · exact ⟨_, hcode .serpentBlockSize rfl rfl⟩
  · exact ⟨_, hcode .tdesEncryptBlock rfl rfl⟩
  · exact ⟨_, hcode .serpentEncryptBlock rfl rfl⟩
  · exact ⟨_, hcode .tdesDecryptBlock rfl rfl⟩
  · exact ⟨_, hcode .serpentDecryptBlock rfl rfl⟩

/-- The words that decode are the legal ones. -/
theorem exists_decode_iff_legal {c : Word} : (∃ i, decode c = .ok i) ↔ c.Legal := by
  refine ⟨?_, exists_decode_of_legal⟩
  rintro ⟨i, hd⟩
  obtain ⟨-, rfl⟩ := decode_ok_iff_encode.1 hd
  exact legal_encode i

/-- The conditions of a legal word, each as a way to break it. -/
theorem legal_iff_not_reserved {c : Word} : c.Legal ↔
    ¬(c.reservedLow ≠ 0 ∨ c.reservedHigh ≠ 0 ∨ 5 ≤ c.op.toNat ∨ (c.op = 4 ∧ c.eng = 1) ∨
      (c.op ≠ 1 ∧ (c.dir ≠ 0 ∨ c.ktype ≠ 0)) ∨ (c.op ≠ 1 ∧ c.op ≠ 4 ∧ c.klen ≠ 0)) := by
  simp only [not_or, not_and, not_not, not_le]
  exact ⟨fun ⟨hlow, hhigh, hop, hstrength, hflags, hklen⟩ => ⟨hlow, hhigh, hop, hstrength, hflags, hklen⟩,
    fun ⟨hlow, hhigh, hop, hstrength, hflags, hklen⟩ => ⟨hlow, hhigh, hop, hstrength, hflags, hklen⟩⟩

/-- Settles O4: an illegal word breaks one of the conditions of a legal one. -/
theorem illegalWordsAreThoseWithReservedFields : Obligations.IllegalWordsAreThoseWithReservedFields := by
  intro c
  calc (∃ e, decode c = .error e)
      ↔ ¬c.Legal := decode_error_iff.trans (not_congr exists_decode_iff_legal)
    _ ↔ _ := (not_congr legal_iff_not_reserved).trans not_not

/-- Settles O5: the legal words by the rows they select, the illegal ones each by its reason. -/
theorem workedCommandWordsDecode : Obligations.WorkedCommandWordsDecode := by
  refine ⟨by decide, by decide, by decide, by decide, by decide, by decide, by decide, ?_⟩
  simp only [List.forall_mem_cons]
  exact ⟨⟨.noSerpentStrength, by decide⟩, ⟨.reservedOp, by decide⟩, ⟨.reservedField, by decide⟩,
    ⟨.reservedBits, by decide⟩, ⟨.reservedBits, by decide⟩, List.forall_mem_nil _⟩

end Sys2Proof
end

section
/-! PROOFS. The statements of 30_encoding.md about the response: what an illegal word is answered, and which fields a
response has. -/

namespace Sys2Proof.Machine

/-- With an illegal word at the head of `issued`, the step refuses it (30_encoding.md R68). -/
theorem step_of_decode_error {s : State} {r : Request} {rest : List HostEvent} {e : Illegal}
    (h : s.issued = .command r :: rest) (hd : decode r.word = .error e) : step s = raise .illegalCommand s := by
  simp only [step, h, hd]

/-- Settles O7: the step refuses the word, and a refusal writes nothing. -/
theorem illegalWordIsRefused : Obligations.IllegalWordIsRefused :=
  fun _ _ _ _ h hd => (step_of_decode_error h hd).trans (raise_of_issued h _)

/-! ### The fields of a response (30_encoding.md R65) -/

/-- The response has the fields that the command has with this status, and a `DOUT` of the sub-engine's block size. -/
structure Response.Fits (resp : Response) (i : Instr) : Prop where
  dout : resp.dout.isSome = true ↔ i.isBlock = true ∧ resp.status = .ok
  val : resp.val.isSome = true ↔ i.isScalar = true ∧ resp.status = .ok
  size : ∀ dout, resp.dout = some dout → dout.length = if i.isTdes then 8 else 16

/-- An error response fits every command. -/
theorem bare_fits_of_error {st : Status} (h : st ≠ .ok) (i : Instr) : (Response.bare st).Fits i := by
  constructor <;> simp [Response.bare, h]

/-- A response that has only a status fits a command that answers neither field. -/
theorem bare_fits {i : Instr} (st : Status) (hb : i.isBlock = false) (hv : i.isScalar = false) :
    (Response.bare st).Fits i := by
  constructor <;> simp [Response.bare, hb, hv]

theorem scalar_fits {i : Instr} (val : Word) (hb : i.isBlock = false) (hv : i.isScalar = true) :
    (Response.scalar val).Fits i := by
  constructor <;> simp [Response.scalar, hb, hv]

theorem block_fits {i : Instr} {dout : List Byte} (hb : i.isBlock = true) (hv : i.isScalar = false)
    (hsize : dout.length = if i.isTdes then 8 else 16) : (Response.block dout).Fits i := by
  constructor <;> simp [Response.block, hb, hv, hsize]

/-- A presented command delivers one response, which fits it. -/
theorem exec_fits (i : Instr) {s : State} {r : Request} {rest : List HostEvent} (h : s.issued = .command r :: rest) :
    ∃ t resp, exec i s = .next t ∧ t.responses = s.responses ++ [resp] ∧ resp.Fits i := by
  cases i with
  | tdesBlockSize => exact ⟨_, _, withRequest_of_issued h _, rfl, scalar_fits 8 rfl rfl⟩
  | serpentBlockSize => exact ⟨_, _, withRequest_of_issued h _, rfl, scalar_fits 16 rfl rfl⟩
  | tdesEffectiveStrength klen =>
    by_cases hlen : klen = 24
    · subst hlen
      exact ⟨_, _, withRequest_of_issued h _, rfl, scalar_fits _ rfl rfl⟩
    · refine ⟨s.deliver (.bare .wrongLength), _, ?_, rfl, bare_fits_of_error (by decide) _⟩
      simp only [exec, execTdesEffectiveStrength, withRequest_of_issued h, strengthStatus, if_pos hlen, raise_next]
  | tdesMakeSchedule dir ktype klen =>
    by_cases hok : tdesKeyStatus ktype klen = .ok
    · obtain ⟨rfl, rfl⟩ := tdesKeyStatus_ok.1 hok
      exact ⟨_, _, exec_tdesMakeSchedule_ok h dir, rfl, bare_fits _ rfl rfl⟩
    · exact ⟨_, _, exec_tdesMakeSchedule_error h dir hok, rfl, bare_fits _ rfl rfl⟩
  | serpentMakeSchedule dir ktype klen =>
    by_cases hok : serpentKeyStatus s.variant ktype klen = .ok
    · obtain ⟨rfl, -⟩ := serpentKeyStatus_ok hok
      exact ⟨_, _, exec_serpentMakeSchedule_ok h dir hok, rfl, bare_fits _ rfl rfl⟩
    · exact ⟨_, _, exec_serpentMakeSchedule_error h dir hok, rfl, bare_fits _ rfl rfl⟩
  | tdesEncryptBlock =>
    cases he : s.tdes with
    | uninit => exact ⟨_, _, (exec_tdesBlock_uninit h he).1, rfl, bare_fits_of_error (by decide) _⟩
    | ready k => exact ⟨_, _, (exec_tdesBlock_ready h he).1, rfl, block_fits rfl rfl (bytesBe_length _)⟩
  | tdesDecryptBlock =>
    cases he : s.tdes with
    | uninit => exact ⟨_, _, (exec_tdesBlock_uninit h he).2, rfl, bare_fits_of_error (by decide) _⟩
    | ready k => exact ⟨_, _, (exec_tdesBlock_ready h he).2, rfl, block_fits rfl rfl (bytesBe_length _)⟩
  | serpentEncryptBlock =>
    cases he : s.serpent with
    | uninit => exact ⟨_, _, (exec_serpentBlock_uninit h he).1, rfl, bare_fits_of_error (by decide) _⟩
    | ready k => exact ⟨_, _, (exec_serpentBlock_ready h he).1, rfl, block_fits rfl rfl (storeQuad_length _)⟩
  | serpentDecryptBlock =>
    cases he : s.serpent with
    | uninit => exact ⟨_, _, (exec_serpentBlock_uninit h he).2, rfl, bare_fits_of_error (by decide) _⟩
    | ready k => exact ⟨_, _, (exec_serpentBlock_ready h he).2, rfl, block_fits rfl rfl (storeQuad_length _)⟩

/-- Settles O11: the response of a word that decodes fits its command, and that of an illegal word is bare. -/
theorem responseFieldsArePresentOnlyWithOk : Obligations.ResponseFieldsArePresentOnlyWithOk := by
  intro s r rest h
  cases hd : decode r.word with
  | error e =>
    refine ⟨_, .bare .illegalCommand, step_of_decode_error h hd, rfl, ?_⟩
    simp [Response.bare]
  | ok i =>
    obtain ⟨t, resp, hexec, hresponses, hfits⟩ := exec_fits i h
    refine ⟨t, resp, (step_of_decode_ok h hd).trans hexec, hresponses, ?_⟩
    refine ⟨by simpa using hfits.dout, by simpa using hfits.val, ?_⟩
    rintro _ dout ⟨⟩ hdout
    exact hfits.size dout hdout

end Sys2Proof.Machine
end

section
/-! PROOFS. The statements of 40_tdes_keyschedule.md: the command word and the effect of `TDES.MAKE_SCHEDULE`, which key
bits reach the schedule, the round keys as rotations of the starting halves, their place in the register file, and the
degenerate keys. -/

namespace Sys2Proof.Machine

/-! ### The command (40_tdes_keyschedule.md R88) -/

/-- A command word is the OR of its fields, each at its place (30_encoding.md R61). -/
theorem assemble_eq_or (op : BitVec 3) (eng dir ktype : BitVec 1) (klen : BitVec 8) :
    assemble op eng dir ktype klen =
      (op.setWidth 32 ||| (eng.setWidth 32 <<< 3)) ||| (klen.setWidth 32 <<< 8) ||| (ktype.setWidth 32 <<< 5) |||
        (dir.setWidth 32 <<< 4) := by
  apply BitVec.eq_of_getLsbD_eq
  intro j hj
  simp only [assemble, BitVec.getLsbD_append, BitVec.getLsbD_or, BitVec.getLsbD_shiftLeft, BitVec.getLsbD_setWidth]
  interval_cases j <;> simp

/-- The fields of a `TDES.MAKE_SCHEDULE`, written into its match word, give its encoding (30_encoding.md R63). -/
theorem encode_tdesMakeSchedule_eq_or (n : BitVec 8) (dir : Direction) (ktype : KeyType) :
    encode (.tdesMakeSchedule dir ktype n.toNat) =
      0x00000001#32 ||| (n.setWidth 32 <<< 8) ||| (ktype.bit.setWidth 32 <<< 5) ||| (dir.bit.setWidth 32 <<< 4) := by
  have hhead : (1 : BitVec 3).setWidth 32 ||| ((0 : BitVec 1).setWidth 32 <<< 3) = 0x00000001#32 := by decide
  rw [encode, assemble_eq_or, hhead, BitVec.ofNat_toNat, BitVec.setWidth_eq]

/-- Settles O16: the word is the command's encoding, a failed check ends with its status alone, and 24 raw bytes are
scheduled. -/
theorem tdesMakeScheduleWritesTheSchedule : Obligations.TdesMakeScheduleWritesTheSchedule := by
  refine ⟨fun n dir ktype => ?_, fun s r rest dir h => ⟨fun klen => ?_, fun klen hlen => ?_, ?_⟩⟩
  · exact decode_ok_iff_encode.2
      ⟨decide_eq_true (Nat.le_of_lt_succ n.isLt), encode_tdesMakeSchedule_eq_or n dir ktype⟩
  · rw [exec_tdesMakeSchedule_error h dir (by simp [tdesKeyStatus_ok]), deliver_of_issued h]
    rfl
  · have hstatus : tdesKeyStatus .raw klen = .wrongLength := by simp [tdesKeyStatus, hlen]
    rw [exec_tdesMakeSchedule_error h dir (by simp [hstatus]), hstatus, deliver_of_issued h]
    rfl
  · rw [exec_tdesMakeSchedule_ok h dir, deliver_of_issued (s := s.setTdes _) h]
    rfl

/-! ### The key bits that reach the schedule (40_tdes_keyschedule.md R81, R82) -/

/-- `Perm` reads its value only at the positions in its table. -/
theorem perm_congr {T : List Nat} {n m : Nat} {v v' : BitVec n} (h : ∀ p ∈ T, fips v p = fips v' p) :
    perm T m v = perm T m v' :=
  List.foldl_ext _ _ _ fun _ p hp => by rw [h p hp]

/-- No table of Permuted Choice 1 holds a multiple of 8, the position of bit 0 of a byte. -/
theorem pc1_positions : ∀ p ∈ pc1C ++ pc1D, 1 ≤ p ∧ p ≤ 64 ∧ p % 8 ≠ 0 := by decide

/-- FIPS position `p` of a key third is a bit of its byte `(p - 1) / 8`, counted from the most significant one. -/
theorem fips_keyThird {key : List Byte} (hkey : key.length = 24) {i p : Nat} (hi : i < 3) (hp : 1 ≤ p) (hp' : p ≤ 64) :
    fips (keyThird key i) p = (key.getD (8 * i + (p - 1) / 8) 0).getLsbD (7 - (p - 1) % 8) := by
  have hlen : (memRead key (8 * i) 8).length = 8 := memRead_length key (8 * i) 8 (by omega)
  have hb : (p - 1) / 8 < (memRead key (8 * i) 8).length := by omega
  have hplace : 64 - p = 56 - 8 * ((p - 1) / 8) + (7 - (p - 1) % 8) := by omega
  rw [fips, keyThird, hplace, be64_getLsbD hlen hb (by omega), List.getD_eq_getElem _ _ (by omega)]
  simp [memRead]

/-- Bytes that agree in bits 7:1 agree in each of these bits. -/
theorem getLsbD_eq_of_ushiftRight_one_eq {a b : Byte} (h : a >>> 1 = b >>> 1) {q : Nat} (hq : 1 ≤ q) :
    a.getLsbD q = b.getLsbD q := by
  have hbit := congrArg (BitVec.getLsbD · (q - 1)) h
  simpa [BitVec.getLsbD_ushiftRight, Nat.add_sub_cancel' hq] using hbit

/-- Two keys that agree in bits 7:1 of every byte have the same set for each third (40_tdes_keyschedule.md R82). -/
theorem keySet_keyThird_congr {key key' : List Byte} (hkey : key.length = 24) (hkey' : key'.length = 24)
    (h : ∀ j, (key.getD j 0) >>> 1 = (key'.getD j 0) >>> 1) {i : Nat} (hi : i < 3) :
    keySet (keyThird key i) = keySet (keyThird key' i) := by
  have hpos : ∀ p ∈ pc1C ++ pc1D, fips (keyThird key i) p = fips (keyThird key' i) p := by
    intro p hp
    obtain ⟨hlow, hhigh, hmod⟩ := pc1_positions p hp
    rw [fips_keyThird hkey hi hlow hhigh, fips_keyThird hkey' hi hlow hhigh]
    exact getLsbD_eq_of_ushiftRight_one_eq (h _) (by omega)
  exact keySet_congr (perm_congr fun p hp => hpos p (List.mem_append_left _ hp))
    (perm_congr fun p hp => hpos p (List.mem_append_right _ hp))

/-- Settles O37: Permuted Choice 1 does not select bit 0 of a byte. -/
theorem keyScheduleIgnoresBitZeroOfEachByte : Obligations.KeyScheduleIgnoresBitZeroOfEachByte := by
  intro key key' hkey hkey' h
  rw [tdesSchedule, tdesSchedule, keySet_keyThird_congr hkey hkey' h (i := 0) (by decide),
    keySet_keyThird_congr hkey hkey' h (i := 1) (by decide), keySet_keyThird_congr hkey hkey' h (i := 2) (by decide)]

/-! ### Round keys as rotations of the starting halves (40_tdes_keyschedule.md R83, R84) -/

@[simp] theorem rotl28_zero (a : BitVec 28) : rotl28 a 0 = a := by
  apply BitVec.eq_of_getLsbD_eq
  intro j hj
  rw [rotl28_getLsbD a 0 j (by omega) hj]
  simp

/-- A rotation by the whole width is no rotation. -/
@[simp] theorem rotl28_width (a : BitVec 28) : rotl28 a 28 = a := by
  apply BitVec.eq_of_getLsbD_eq
  intro j hj
  rw [rotl28_getLsbD a 28 j (by omega) hj, if_pos hj]
  simp

/-- Rotations add up. -/
theorem rotl28_rotl28 (a : BitVec 28) {m n : Nat} (h : m + n ≤ 28) : rotl28 (rotl28 a m) n = rotl28 a (m + n) := by
  apply BitVec.eq_of_getLsbD_eq
  intro j hj
  rw [rotl28_getLsbD _ n j (by omega) hj, rotl28_getLsbD a (m + n) j h hj]
  by_cases hn : j < n
  · rw [if_pos hn, rotl28_getLsbD a m _ (by omega) (by omega), if_neg (by omega), if_pos (by omega)]
    congr 1; omega
  · rw [if_neg hn, rotl28_getLsbD a m _ (by omega) (by omega)]
    by_cases hm : j < m + n
    · rw [if_pos (by omega), if_pos hm]
      congr 1; omega
    · rw [if_neg (by omega), if_neg hm]
      congr 1; omega

/-- The sums of a list's entries so far, on top of `n`: `s_0, s_1, …` (40_tdes_keyschedule.md R84). -/
def runningSums : Nat → List Nat → List Nat
  | _, [] => []
  | n, v :: vs => (n + v) :: runningSums (n + v) vs

/-- From halves already rotated by `n`, each round key is that of the starting halves rotated by the sum so far. -/
theorem roundKeys_eq_map_runningSums (c d : BitVec 28) : ∀ (vs : List Nat) (n : Nat), n + vs.sum ≤ 28 →
    roundKeys vs (rotl28 c n) (rotl28 d n) =
      (runningSums n vs).map fun s => roundKey (rotl28 c s) (rotl28 d s)
  | [], _, _ => rfl
  | v :: vs, n, h => by
    rw [List.sum_cons] at h
    rw [roundKeys, rotl28_rotl28 c (by omega), rotl28_rotl28 d (by omega),
      roundKeys_eq_map_runningSums c d vs (n + v) (by omega), runningSums, List.map_cons]

/-- The cumulative amounts as the spec prints them (40_tdes_keyschedule.md R84). -/
theorem runningSums_rotations :
    runningSums 0 rotations = [1, 2, 4, 6, 8, 10, 12, 14, 15, 17, 19, 21, 23, 25, 27, 28] := by decide

/-- The sixteen round keys, each from the starting halves. -/
theorem roundKeys_rotations (c d : BitVec 28) :
    roundKeys rotations c d = (runningSums 0 rotations).map fun s => roundKey (rotl28 c s) (rotl28 d s) := by
  simpa using roundKeys_eq_map_runningSums c d rotations 0 (by decide)

/-- Settles O38: rotations add up, so each round key is that of one rotation of the starting halves. -/
theorem roundKeysAreCumulativeRotations : Obligations.RoundKeysAreCumulativeRotations := by
  intro c d
  refine ⟨?_, rotl28_width c, rotl28_width d⟩
  rw [roundKeys_rotations, runningSums_rotations]
  rfl

/-! ### The register file (40_tdes_keyschedule.md R86) -/

/-- Round key `j` fills words `2j` and `2j+1` of the packed words. -/
theorem flatMap_halfWords_getElem? {K : BitVec 48} : ∀ {Ks : List (BitVec 48)} {j : Nat}, Ks[j]? = some K →
    (Ks.flatMap halfWords)[2 * j]? = some ((K.extractLsb' 24 24).setWidth 32) ∧
    (Ks.flatMap halfWords)[2 * j + 1]? = some ((K.extractLsb' 0 24).setWidth 32)
  | _ :: _, 0, h => by
    obtain rfl := Option.some.inj h
    exact ⟨rfl, rfl⟩
  | _ :: Ks, j + 1, h => flatMap_halfWords_getElem? (Ks := Ks) (j := j) h

/-- A word of a set, by its place in the list of the set's words. -/
theorem keySet_getElem {third : BitVec 64} {n : Nat} {w : Word} (hn : n < 32) (h : (keySetWords third)[n]? = some w) :
    (keySet third)[n] = w := by
  rw [← keySet_toList, List.getElem?_eq_some_iff] at h
  obtain ⟨_, hw⟩ := h
  rwa [Vector.getElem_toList] at hw

/-- Set `i` of a key's schedule is the set of its third `i` (40_tdes_keyschedule.md R80, R87). -/
theorem tdesSchedule_getElem (key : List Byte) (i : Fin 3) : (tdesSchedule key)[i.val] = keySet (keyThird key i.val) := by
  match i with
  | 0 | 1 | 2 => rfl

/-- Settles O39: set `i` packs the round keys of third `i`, two words each. -/
theorem scheduleWordsAreTheHalvesOfTheRoundKeys : Obligations.ScheduleWordsAreTheHalvesOfTheRoundKeys := by
  intro key i j K hK
  obtain ⟨hhigh, hlow⟩ := flatMap_halfWords_getElem? hK
  rw [tdesSchedule_getElem]
  exact ⟨keySet_getElem (by omega) hhigh, keySet_getElem (by omega) hlow⟩

/-! ### Degenerate keys (40_tdes_keyschedule.md R89)

A value of equal bits stays one through every function of the key schedule. -/

/-- Every position of a value of equal bits is that bit. -/
theorem fips_fill {n p : Nat} (b : Bool) (hp : 1 ≤ p) (hp' : p ≤ n) : fips (BitVec.fill n b) p = b := by
  have hlt : n - p < n := by omega
  simp [fips, hlt]

theorem perm_fill {T : List Nat} {n m : Nat} (b : Bool) (hT : T.length = m) (h : ∀ p ∈ T, 1 ≤ p ∧ p ≤ n) :
    perm T m (BitVec.fill n b) = BitVec.fill m b := by
  apply BitVec.eq_of_getLsbD_eq
  intro j hj
  have hk : m - 1 - j < T.length := by omega
  obtain ⟨hlow, hhigh⟩ := h _ (List.getElem_mem hk)
  rw [perm_getLsbD T _ hT j hj, List.getD_eq_getElem _ _ hk, fips_fill b hlow hhigh]
  simp [hj]

theorem rotl28_fill (b : Bool) {s : Nat} (hs : s ≤ 28) : rotl28 (BitVec.fill 28 b) s = BitVec.fill 28 b := by
  apply BitVec.eq_of_getLsbD_eq
  intro j hj
  rw [rotl28_getLsbD _ s j hs hj]
  by_cases h : j < s
  · simp [h, hj, show 28 - s + j < 28 by omega]
  · simp [h, hj, show j - s < 28 by omega]

theorem keyThird_replicate_fill (b : Bool) (i : Fin 3) :
    keyThird (List.replicate 24 (BitVec.fill 8 b)) i.val = BitVec.fill 64 b := by
  have hbytes : memRead (List.replicate 24 (BitVec.fill 8 b)) (8 * i.val) 8 = List.replicate 8 (BitVec.fill 8 b) := by
    rw [memRead, List.drop_replicate, List.take_replicate, Nat.min_eq_left (by omega)]
  rw [keyThird, hbytes]
  cases b <;> decide

theorem roundKey_fill (b : Bool) : roundKey (BitVec.fill 28 b) (BitVec.fill 28 b) = BitVec.fill 48 b := by
  have happend : BitVec.fill 28 b ++ BitVec.fill 28 b = BitVec.fill 56 b := by cases b <;> decide
  rw [roundKey, happend]
  exact perm_fill b rfl (by decide)

theorem roundKeys_fill (b : Bool) :
    ∀ K ∈ roundKeys rotations (BitVec.fill 28 b) (BitVec.fill 28 b), K = BitVec.fill 48 b := by
  have hsums : ∀ s ∈ runningSums 0 rotations, s ≤ 28 := by decide
  rw [roundKeys_rotations]
  intro K hK
  obtain ⟨s, hs, rfl⟩ := List.mem_map.1 hK
  rw [rotl28_fill b (hsums s hs), roundKey_fill]

theorem extractLsb'_fill (b : Bool) {w lo len : Nat} (h : lo + len ≤ w) :
    (BitVec.fill w b).extractLsb' lo len = BitVec.fill len b := by
  apply BitVec.eq_of_getLsbD_eq
  intro j hj
  simp [hj, show lo + j < w by omega]

theorem halfWords_fill (b : Bool) : ∀ w ∈ halfWords (BitVec.fill 48 b), w = (BitVec.fill 24 b).setWidth 32 := by
  rw [halfWords, extractLsb'_fill b (by decide), extractLsb'_fill b (by decide)]
  simp

/-- Every word of the set of a third of equal bits has these bits in its low 24 places. -/
theorem keySet_fill (b : Bool) (n : Fin 32) :
    (keySet (BitVec.fill 64 b))[n.val] = (BitVec.fill 24 b).setWidth 32 := by
  have hC : startC (BitVec.fill 64 b) = BitVec.fill 28 b := perm_fill b rfl (by decide)
  have hD : startD (BitVec.fill 64 b) = BitVec.fill 28 b := perm_fill b rfl (by decide)
  have hmem : (keySet (BitVec.fill 64 b))[n.val] ∈ keySetWords (BitVec.fill 64 b) := by
    rw [← keySet_toList, Vector.mem_toList_iff]
    exact Vector.getElem_mem n.isLt
  rw [keySetWords, hC, hD] at hmem
  obtain ⟨K, hK, hw⟩ := List.mem_flatMap.1 hmem
  rw [roundKeys_fill b K hK] at hw
  exact halfWords_fill b _ hw

/-- Every word of the schedule of a key of equal bits has these bits in its low 24 places. -/
theorem tdesSchedule_replicate_fill (b : Bool) (i : Fin 3) (n : Fin 32) :
    (tdesSchedule (List.replicate 24 (BitVec.fill 8 b)))[i.val][n.val] = (BitVec.fill 24 b).setWidth 32 := by
  rw [tdesSchedule_getElem, keyThird_replicate_fill, keySet_fill]

/-- Settles O40: the checks do not look at the bytes, and a key of equal bits has equal bits in all its words. -/
theorem degenerateKeysAreAccepted : Obligations.DegenerateKeysAreAccepted :=
  ⟨fun dir _ _ _ h => ⟨_, _, exec_tdesMakeSchedule_ok h dir, rfl⟩,
    fun i n => ⟨tdesSchedule_replicate_fill false i n, tdesSchedule_replicate_fill true i n⟩⟩

end Sys2Proof.Machine
end

section
/-! PROOFS. The statements of 41_tdes_block.md section 2: what `Perm` does to OR, AND and zero, and when two tables undo
each other, with `IP` and `FP` as the case of interest. -/

namespace Sys2Proof.Machine

/-! ### FIPS positions -/

/-- Values that agree in every FIPS position are equal (00_scope.md R10). -/
theorem eq_of_fips_eq {n : Nat} {v w : BitVec n} (h : ∀ k < n, fips v (k + 1) = fips w (k + 1)) : v = w := by
  apply BitVec.eq_of_getLsbD_eq
  intro j hj
  have hplace : n - (n - 1 - j + 1) = j := by omega
  have hk := h (n - 1 - j) (by omega)
  rwa [fips, fips, hplace] at hk

@[simp] theorem fips_or {n : Nat} (v w : BitVec n) (p : Nat) : fips (v ||| w) p = (fips v p || fips w p) :=
  BitVec.getLsbD_or

@[simp] theorem fips_and {n : Nat} (v w : BitVec n) (p : Nat) : fips (v &&& w) p = (fips v p && fips w p) :=
  BitVec.getLsbD_and

theorem fips_zero {n : Nat} (p : Nat) : fips (0 : BitVec n) p = false := BitVec.getLsbD_zero

/-- The position law of `Perm`, by the table entry (00_scope.md R11). -/
theorem fips_perm_of_getElem? {T : List Nat} {n m : Nat} (hT : T.length = m) (v : BitVec n) {k p : Nat}
    (h : T[k]? = some p) : fips (perm T m v) (k + 1) = fips v p := by
  subst hT
  obtain ⟨hk, rfl⟩ := List.getElem?_eq_some_iff.1 h
  exact fips_perm T v k hk

/-! ### `Perm` bit by bit -/

section bitwise
variable {T : List Nat} {m : Nat} (hT : T.length = m)
include hT

theorem perm_or {n : Nat} (v w : BitVec n) : perm T m (v ||| w) = perm T m v ||| perm T m w := by
  subst hT
  exact eq_of_fips_eq fun k hk => by simp only [fips_or, fips_perm T _ k hk]

theorem perm_and {n : Nat} (v w : BitVec n) : perm T m (v &&& w) = perm T m v &&& perm T m w := by
  subst hT
  exact eq_of_fips_eq fun k hk => by simp only [fips_and, fips_perm T _ k hk]

theorem perm_zero (n : Nat) : perm T m (0 : BitVec n) = 0 := by
  subst hT
  exact eq_of_fips_eq fun k hk => by simp only [fips_zero, fips_perm T _ k hk]

end bitwise

/-! ### Tables that undo each other -/

/-- Each entry `p` of `T'` names the position in `T` at which the entry's own position `k` stands
(41_tdes_block.md R102). -/
def TableInverts (n : Nat) (T' T : List Nat) : Prop :=
  ∀ k : Fin n, ∃ p : Fin n, T'[k.val]? = some (p.val + 1) ∧ T[p.val]? = some (k.val + 1)

theorem perm_perm_of_tableInverts {n : Nat} {T' T : List Nat} (hT' : T'.length = n) (hT : T.length = n)
    (h : TableInverts n T' T) (v : BitVec n) : perm T' n (perm T n v) = v := by
  refine eq_of_fips_eq fun k hk => ?_
  obtain ⟨p, hp, hk'⟩ := h ⟨k, hk⟩
  rw [fips_perm_of_getElem? hT' _ hp, fips_perm_of_getElem? hT _ hk']

/-- Where `T'` inverts `T`, an entry of `T'` fixes the entry of `T` it points to. -/
theorem TableInverts.getElem? {n : Nat} {T' T : List Nat} (h : TableInverts n T' T) {k p : Fin n}
    (hp : T'[k.val]? = some (p.val + 1)) : T[p.val]? = some (k.val + 1) := by
  obtain ⟨p', hp', hk⟩ := h k
  have hpp' : p'.val = p.val := by simpa using hp'.symm.trans hp
  rwa [hpp'] at hk

theorem tableInverts_fpt_ipt : TableInverts 64 fpt ipt := by unfold TableInverts; decide +kernel

theorem tableInverts_ipt_fpt : TableInverts 64 ipt fpt := by unfold TableInverts; decide +kernel

/-- `FP` undoes `IP` (41_tdes_block.md R102). -/
@[simp] theorem fp_ip (v : BitVec 64) : fp (ip v) = v :=
  perm_perm_of_tableInverts (T' := fpt) (T := ipt) rfl rfl tableInverts_fpt_ipt v

/-- `IP` undoes `FP` (41_tdes_block.md R102). -/
@[simp] theorem ip_fp (v : BitVec 64) : ip (fp v) = v :=
  perm_perm_of_tableInverts (T' := ipt) (T := fpt) rfl rfl tableInverts_ipt_fpt v

/-- Settles O41: the tables invert each other, so the permutations do; the check values are computed. -/
theorem fpIsTheInverseOfIp : Obligations.FpIsTheInverseOfIp :=
  ⟨fun v => ⟨fp_ip v, ip_fp v⟩, fun _ _ => ⟨tableInverts_fpt_ipt.getElem?, tableInverts_ipt_fpt.getElem?⟩,
    by decide +kernel⟩

end Sys2Proof.Machine
end

section
/-! PROOFS. The statements of 41_tdes_block.md section 3: the merged tables against the printed ones and against `P` of the
S-box outputs, and the worked pass. -/

namespace Sys2Proof.Machine

/-! ### An S-box output in its place (41_tdes_block.md R107) -/

/-- The output of S-box `k` in FIPS positions `4k+1` to `4k+4` of a word, `k = 0` for `S1` (41_tdes_block.md R107). -/
def placeNibble (k : Fin 8) (b : BitVec 4) : Word := b.setWidth 32 <<< (32 - 4 * (k.val + 1))

theorem pt_length : pt.length = 32 := rfl

theorem sp_eq_perm_placeNibble (k : Fin 8) (x : BitVec 6) : sp k x = perm pt 32 (placeNibble k (desSBoxOut k x)) := rfl

theorem placeNibble_getLsbD (k : Fin 8) (b : BitVec 4) {j : Nat} (hj : j < 32) :
    (placeNibble k b).getLsbD j = (decide (28 - 4 * k.val ≤ j) && b.getLsbD (j - (28 - 4 * k.val))) := by
  have hplace : 32 - 4 * (k.val + 1) = 28 - 4 * k.val := by omega
  rw [placeNibble, hplace, BitVec.getLsbD_shiftLeft, BitVec.getLsbD_setWidth]
  by_cases h : j < 28 - 4 * k.val
  · simp [h, show ¬ 28 - 4 * k.val ≤ j by omega]
  · simp [h, hj, show 28 - 4 * k.val ≤ j by omega, show j - (28 - 4 * k.val) < 32 by omega]

/-- A set bit of a placed output names its S-box. -/
theorem index_of_placeNibble_getLsbD {k : Fin 8} {b : BitVec 4} {j : Nat} (hj : j < 32)
    (h : (placeNibble k b).getLsbD j = true) : k.val = 7 - j / 4 := by
  rw [placeNibble_getLsbD k b hj, Bool.and_eq_true, decide_eq_true_eq] at h
  have hlt := BitVec.lt_of_getLsbD h.2
  omega

/-- Outputs in different places share no bit. -/
theorem placeNibble_and {k k' : Fin 8} (hk : k ≠ k') (b b' : BitVec 4) : placeNibble k b &&& placeNibble k' b' = 0 := by
  apply BitVec.eq_of_getLsbD_eq
  intro j hj
  refine (Bool.eq_false_iff.2 fun hand => hk ?_).trans BitVec.getLsbD_zero.symm
  rw [BitVec.getLsbD_and, Bool.and_eq_true] at hand
  have hindex := index_of_placeNibble_getLsbD hj hand.1
  have hindex' := index_of_placeNibble_getLsbD hj hand.2
  exact Fin.ext (hindex.trans hindex'.symm)

/-- Eight outputs side by side are the OR of the placed outputs. -/
theorem append_eq_or_placeNibble (b0 b1 b2 b3 b4 b5 b6 b7 : BitVec 4) :
    b0 ++ b1 ++ b2 ++ b3 ++ b4 ++ b5 ++ b6 ++ b7 =
      placeNibble 0 b0 ||| placeNibble 1 b1 ||| placeNibble 2 b2 ||| placeNibble 3 b3 |||
      placeNibble 4 b4 ||| placeNibble 5 b5 ||| placeNibble 6 b6 ||| placeNibble 7 b7 := by
  apply BitVec.eq_of_getLsbD_eq
  intro j hj
  simp only [BitVec.getLsbD_append, BitVec.getLsbD_or, placeNibble_getLsbD _ _ hj]
  interval_cases j <;> simp

/-! ### The merged tables (41_tdes_block.md R106 to R108) -/

/-- Settles O44: `P` keeps the outputs of different S-boxes in different places. -/
theorem mergedTermsAreDisjoint : Obligations.MergedTermsAreDisjoint := by
  intro k k' x x' hk
  rw [sp_eq_perm_placeNibble, sp_eq_perm_placeNibble, ← perm_and pt_length, placeNibble_and hk, perm_zero pt_length]

/-- Settles O43: `P` of the OR of the placed outputs is the OR of the merged entries. -/
theorem substitutionIsPOfTheSBoxes : Obligations.SubstitutionIsPOfTheSBoxes := by
  intro left right
  rw [append_eq_or_placeNibble]
  simp only [perm_or pt_length, ← sp_eq_perm_placeNibble]
  rfl

/-- Settles O42, by computing the 512 entries. -/
theorem mergedTablesAreThePrintedOnes : Obligations.MergedTablesAreThePrintedOnes := by
  unfold Obligations.MergedTablesAreThePrintedOnes
  decide +kernel

/-! ### The worked pass (41_tdes_block.md R118) -/

/-- The inputs of the S-boxes in the first round. -/
theorem workedPass_halves :
    leftHalf 0xF0AAF0AA (keySet 0x133457799BBCDFF1) 0 = 0x6117BA ∧
    rightHalf 0xF0AAF0AA (keySet 0x133457799BBCDFF1) 0 = 0x866527 := by decide +kernel

/-- Settles O49: the value of `f` is that of the lookups at the two halves; the other values are computed. -/
theorem workedSinglePass : Obligations.WorkedSinglePass := by
  obtain ⟨hleft, hright⟩ := workedPass_halves
  refine ⟨by decide +kernel, hleft, hright, ?_, by decide +kernel⟩
  rw [feistel, hleft, hright]
  decide +kernel

end Sys2Proof.Machine
end

section
/-! PROOFS. The statements of 41_tdes_block.md section 4: each pass is the rounds of a list of indices and an exchange, and
the pass of the reversed list undoes it. -/

namespace Sys2Proof.Machine

/-! ### The halves of the state (41_tdes_block.md R103, R109) -/

/-- The halves exchanged. -/
def Halves.swap (h : Halves) : Halves := ⟨h.r, h.l⟩

@[simp] theorem swap_swap (h : Halves) : h.swap.swap = h := rfl

@[simp] theorem split_join (h : Halves) : Halves.split h.join = h := by
  rw [Halves.split, Halves.join, BitVec.extractLsb'_append_eq_left, BitVec.extractLsb'_append_eq_right]

@[simp] theorem join_split (s : BitVec 64) : (Halves.split s).join = s :=
  BitVec.extractLsb'_append_extractLsb' (w := 32) (len := 32) (x := s)

/-! ### Rounds (41_tdes_block.md R109) -/

/-- The last round executed is a round with exchange whose exchange is taken back. -/
theorem roundLast_eq_swap (ks : KeySet) (h : Halves) (j : Fin 16) : roundLast ks h j = (roundSwap ks h j).swap := rfl

/-- Between two exchanges a round undoes itself: its `f` reads the half that it keeps. -/
theorem roundSwap_swap_roundSwap (ks : KeySet) (h : Halves) (j : Fin 16) :
    roundSwap ks (roundSwap ks h j).swap j = h.swap := by
  simp [roundSwap, Halves.swap]

/-- The rounds of a list of indices with exchange, and the exchange taken back. -/
def passHalves (ks : KeySet) (js : List (Fin 16)) (h : Halves) : Halves := (js.foldl (roundSwap ks) h).swap

theorem passHalves_reverse (ks : KeySet) : ∀ (js : List (Fin 16)) (h : Halves),
    passHalves ks js.reverse (passHalves ks js h) = h
  | [], h => swap_swap h
  | j :: js, h => by
    have ih : js.reverse.foldl (roundSwap ks) (passHalves ks js (roundSwap ks h j)) = (roundSwap ks h j).swap :=
      congrArg Halves.swap (passHalves_reverse ks js (roundSwap ks h j))
    calc passHalves ks (j :: js).reverse (passHalves ks (j :: js) h)
        = (roundSwap ks (js.reverse.foldl (roundSwap ks) (passHalves ks js (roundSwap ks h j))) j).swap := by
          simp only [passHalves, List.reverse_cons, List.foldl_append, List.foldl_cons, List.foldl_nil]
      _ = h := by rw [ih, roundSwap_swap_roundSwap, swap_swap]

/-! ### The passes (41_tdes_block.md R110, R111) -/

/-- The pass of a list of round indices: the last of them does not exchange the halves. -/
def desPass (ks : KeySet) (js : List (Fin 16)) (s : BitVec 64) : BitVec 64 := (passHalves ks js (.split s)).join

theorem desPass_append_singleton (ks : KeySet) (js : List (Fin 16)) (j : Fin 16) (s : BitVec 64) :
    desPass ks (js ++ [j]) s = (roundLast ks (js.foldl (roundSwap ks) (.split s)) j).join := by
  rw [desPass, passHalves, List.foldl_append, roundLast_eq_swap]
  rfl

theorem encryptDES_eq_desPass (s : BitVec 64) (ks : KeySet) : encryptDES s ks = desPass ks (ascending ++ [15]) s :=
  (desPass_append_singleton ks ascending 15 s).symm

theorem decryptDES_eq_desPass (s : BitVec 64) (ks : KeySet) : decryptDES s ks = desPass ks (descending ++ [0]) s :=
  (desPass_append_singleton ks descending 0 s).symm

/-- The pass of the reversed indices undoes a pass. -/
theorem desPass_reverse (ks : KeySet) (js : List (Fin 16)) (s : BitVec 64) :
    desPass ks js.reverse (desPass ks js s) = s := by
  rw [desPass, desPass, split_join, passHalves_reverse, join_split]

/-- The indices of decryption are those of encryption backwards. -/
theorem ascending_reverse : (ascending ++ [15]).reverse = descending ++ [0] := by decide

/-- The decryption pass undoes the encryption pass (41_tdes_block.md R114). -/
@[simp] theorem decryptDES_encryptDES (s : BitVec 64) (ks : KeySet) : decryptDES (encryptDES s ks) ks = s := by
  rw [encryptDES_eq_desPass, decryptDES_eq_desPass, ← ascending_reverse, desPass_reverse]

/-- The encryption pass undoes the decryption pass (41_tdes_block.md R114). -/
@[simp] theorem encryptDES_decryptDES (s : BitVec 64) (ks : KeySet) : encryptDES (decryptDES s ks) ks = s := by
  rw [encryptDES_eq_desPass, decryptDES_eq_desPass, ← List.reverse_reverse (ascending ++ [15]), ascending_reverse,
    desPass_reverse]

/-- Settles O45: the two passes take the same rounds in opposite orders. -/
theorem passesInvertEachOther : Obligations.PassesInvertEachOther :=
  fun s ks => ⟨decryptDES_encryptDES s ks, encryptDES_decryptDES s ks⟩

end Sys2Proof.Machine
end

section
/-! PROOFS. The statements of 41_tdes_block.md section 5: what the two block commands answer, that each undoes the other,
and the transform as single DES operations. -/

namespace Sys2Proof.Machine

/-! ### What the commands answer (41_tdes_block.md R112, R113) -/

/-- The operand of a TDES block command has the eight bytes of a block (20_memory.md R40). -/
theorem tdesDin_length (r : Request) : (r.din.toList.take 8).length = 8 := dinOperand_length r 8 (by omega)

theorem tdesEncrypt_of_length (k : TdesSchedule) {din : List Byte} (h : din.length = 8) :
    tdesEncrypt k din = bytesBe (tdesEncrypt64 k (be64 din)) := by rw [tdesEncrypt, memRead_all din 8 h]

theorem tdesDecrypt_of_length (k : TdesSchedule) {din : List Byte} (h : din.length = 8) :
    tdesDecrypt k din = bytesBe (tdesDecrypt64 k (be64 din)) := by rw [tdesDecrypt, memRead_all din 8 h]

/-- Settles O18: the refusal and the answer of the command, with the transform of a whole block. -/
theorem tdesEncryptBlockAnswersTheCiphertext : Obligations.TdesEncryptBlockAnswersTheCiphertext := by
  refine ⟨decode_ok_iff_encode.2 ⟨rfl, by decide⟩, fun s r rest h => ⟨fun he => ?_, fun k he => ?_⟩⟩
  · rw [(exec_tdesBlock_uninit h he).1, deliver_of_issued h]
    rfl
  · rw [(exec_tdesBlock_ready h he).1, deliver_of_issued h, tdesEncrypt_of_length k (tdesDin_length r)]
    rfl

/-- Settles O19: the refusal and the answer of the command, with the transform of a whole block. -/
theorem tdesDecryptBlockAnswersThePlaintext : Obligations.TdesDecryptBlockAnswersThePlaintext := by
  refine ⟨decode_ok_iff_encode.2 ⟨rfl, by decide⟩, fun s r rest h => ⟨fun he => ?_, fun k he => ?_⟩⟩
  · rw [(exec_tdesBlock_uninit h he).2, deliver_of_issued h]
    rfl
  · rw [(exec_tdesBlock_ready h he).2, deliver_of_issued h, tdesDecrypt_of_length k (tdesDin_length r)]
    rfl

/-! ### Single DES operations (41_tdes_block.md R115, R116) -/

/-- Settles O47: between two passes `IP` undoes `FP`. -/
theorem tripleDesIsThreeCompleteDes : Obligations.TripleDesIsThreeCompleteDes := by
  intro k v
  simp only [tdesEncrypt64, tdesDecrypt64, ip_fp, and_self]

/-- Settles O48: two neighbouring passes under one set undo each other. -/
theorem equalSetsCancelToSingleDes : Obligations.EqualSetsCancelToSingleDes := by
  refine fun k v => ⟨fun h => ?_, fun h => ?_⟩
  · simp only [tdesEncrypt64, tdesDecrypt64, h, decryptDES_encryptDES, and_self]
  · simp only [tdesEncrypt64, tdesDecrypt64, h, encryptDES_decryptDES, and_self]

/-! ### Each command undoes the other (41_tdes_block.md R114) -/

theorem tdesDecrypt64_tdesEncrypt64 (k : TdesSchedule) (v : BitVec 64) : tdesDecrypt64 k (tdesEncrypt64 k v) = v := by
  rw [tdesDecrypt64, tdesEncrypt64, ip_fp, decryptDES_encryptDES, encryptDES_decryptDES, decryptDES_encryptDES, fp_ip]

theorem tdesEncrypt64_tdesDecrypt64 (k : TdesSchedule) (v : BitVec 64) : tdesEncrypt64 k (tdesDecrypt64 k v) = v := by
  rw [tdesDecrypt64, tdesEncrypt64, ip_fp, encryptDES_decryptDES, decryptDES_encryptDES, encryptDES_decryptDES, fp_ip]

theorem tdesDecrypt_tdesEncrypt (k : TdesSchedule) {din : List Byte} (h : din.length = 8) :
    tdesDecrypt k (tdesEncrypt k din) = din := by
  rw [tdesEncrypt_of_length k h, tdesDecrypt_of_length k (bytesBe_length _), be64_bytesBe,
    tdesDecrypt64_tdesEncrypt64, bytesBe_be64 h]

theorem tdesEncrypt_tdesDecrypt (k : TdesSchedule) {din : List Byte} (h : din.length = 8) :
    tdesEncrypt k (tdesDecrypt k din) = din := by
  rw [tdesDecrypt_of_length k h, tdesEncrypt_of_length k (bytesBe_length _), be64_bytesBe,
    tdesEncrypt64_tdesDecrypt64, bytesBe_be64 h]

/-- A command that answers a block answers no other. -/
theorem dout_of_exec_block {i : Instr} {s t : State} {d dout : List Byte} (he : exec i s = .next (s.deliver (.block d)))
    (ht : exec i s = .next t) (hresp : t.responses = s.responses ++ [⟨.ok, some dout, none⟩]) : dout = d := by
  obtain rfl := Host.Outcome.next.inj (he.symm.trans ht)
  simpa [Response.block, eq_comm] using hresp

/-- Settles O46: the second command's block is the first one's answer, whose transform is the first one's block. -/
theorem tdesBlockCommandsInvertEachOther : Obligations.TdesBlockCommandsInvertEachOther := by
  intro s t u k r r' rest rest' dout i j hij hs h ht hresp hu h' hdin
  rcases hij with ⟨rfl, rfl⟩ | ⟨rfl, rfl⟩
  · have hdout := dout_of_exec_block (exec_tdesBlock_ready h hs).1 ht hresp
    rw [(exec_tdesBlock_ready h' hu).2, hdin, hdout, tdesDecrypt_tdesEncrypt k (tdesDin_length r), deliver_of_issued h']
    rfl
  · have hdout := dout_of_exec_block (exec_tdesBlock_ready h hs).2 ht hresp
    rw [(exec_tdesBlock_ready h' hu).1, hdin, hdout, tdesEncrypt_tdesDecrypt k (tdesDin_length r), deliver_of_issued h']
    rfl

end Sys2Proof.Machine
end

section
/-! PROOFS. The statements of 42_serpent_keyschedule.md section 1: the S-box as a map of nibbles, one at each bit position,
and the Boolean formulas, which act on each bit position too and so are settled by the 16 nibbles. -/

namespace Sys2Proof.Machine

/-! ### The S-box on each bit position (42_serpent_keyschedule.md R131) -/

/-- The nibble that four bits make, the last of them least significant. -/
theorem toNat_append_ofBool (b3 b2 b1 b0 : Bool) :
    (BitVec.ofBool b3 ++ BitVec.ofBool b2 ++ BitVec.ofBool b1 ++ BitVec.ofBool b0).toNat =
      b0.toNat + 2 * b1.toNat + 4 * b2.toNat + 8 * b3.toNat := by
  revert b3 b2 b1 b0
  decide

/-- The nibble at bit position `j` as the number that indexes a table. -/
theorem nibble_toNat (x : Quad) (j : Nat) :
    (x.nibble j).toNat = (x.d0.getLsbD j).toNat + 2 * (x.d1.getLsbD j).toNat + 4 * (x.d2.getLsbD j).toNat +
      8 * (x.d3.getLsbD j).toNat :=
  toNat_append_ofBool _ _ _ _

/-- Settles O50: `n` is the nibble at position `j`, and bit `j` of each output word is a bit of the table's entry. -/
theorem sboxActsOnEachBitPosition : Obligations.SboxActsOnEachBitPosition := by
  intro T x j hj n
  have hn : (x.nibble j).toNat = n := nibble_toNat x j
  have hentry : SBox.at T (x.nibble j) = T[n]'(hn ▸ (x.nibble j).isLt) := by simp only [SBox.at, hn]
  refine ⟨hn ▸ (x.nibble j).isLt, ?_⟩
  rw [← hentry]
  exact ⟨sboxWord_getLsbD T x 0 j hj, sboxWord_getLsbD T x 1 j hj, sboxWord_getLsbD T x 2 j hj,
    sboxWord_getLsbD T x 3 j hj⟩

/-! ### The formulas (42_serpent_keyschedule.md R133) -/

/-- Two values have the same nibble at a position exactly when their words have the same bits there. -/
theorem nibble_eq_iff {x y : Quad} {j : Nat} :
    x.nibble j = y.nibble j ↔ x.d0.getLsbD j = y.d0.getLsbD j ∧ x.d1.getLsbD j = y.d1.getLsbD j ∧
      x.d2.getLsbD j = y.d2.getLsbD j ∧ x.d3.getLsbD j = y.d3.getLsbD j := by
  rw [Quad.nibble, Quad.nibble]
  generalize x.d0.getLsbD j = a, x.d1.getLsbD j = b, x.d2.getLsbD j = c, x.d3.getLsbD j = d
  generalize y.d0.getLsbD j = a', y.d1.getLsbD j = b', y.d2.getLsbD j = c', y.d3.getLsbD j = d'
  revert a b c d a' b' c' d'
  decide

/-- A four-word value is its 32 nibbles. -/
theorem quad_eq_of_nibble_eq {x y : Quad} (h : ∀ j < 32, x.nibble j = y.nibble j) : x = y := by
  simp only [nibble_eq_iff, forall_and] at h
  obtain ⟨h0, h1, h2, h3⟩ := h
  exact quad_ext (BitVec.eq_of_getLsbD_eq h0) (BitVec.eq_of_getLsbD_eq h1) (BitVec.eq_of_getLsbD_eq h2)
    (BitVec.eq_of_getLsbD_eq h3)

/-- A nibble is its four bits. -/
theorem append_ofBool_getLsbD (n : BitVec 4) :
    BitVec.ofBool (n.getLsbD 3) ++ BitVec.ofBool (n.getLsbD 2) ++ BitVec.ofBool (n.getLsbD 1) ++
      BitVec.ofBool (n.getLsbD 0) = n := by
  revert n
  decide

/-- The S-box looks each nibble up in its table. -/
theorem sbox_nibble (T : SBox) (x : Quad) {j : Nat} (hj : j < 32) : (sbox T x).nibble j = SBox.at T (x.nibble j) := by
  rw [Quad.nibble, sbox]
  simp only [sboxWord_getLsbD T x _ j hj, append_ofBool_getLsbD]

/-- The four-word value that has the nibble `n` at every bit position. -/
def Quad.spread (n : BitVec 4) : Quad :=
  ⟨.fill 32 (n.getLsbD 0), .fill 32 (n.getLsbD 1), .fill 32 (n.getLsbD 2), .fill 32 (n.getLsbD 3)⟩

/-- At every bit position of a spread nibble stands that nibble. -/
theorem spread_nibble (n : BitVec 4) {j : Nat} (hj : j < 32) : (Quad.spread n).nibble j = n := by
  simp only [Quad.nibble, Quad.spread, BitVec.getLsbD_fill, hj, decide_true, Bool.and_true, append_ofBool_getLsbD]

/-- A function of four words acts on each bit position separately. -/
def Bitwise (f : Quad → Quad) : Prop := ∀ x y j, x.nibble j = y.nibble j → (f x).nibble j = (f y).nibble j

/-- Formulas that act on each bit position are an S-box when they take each of the 16 nibbles to its table entry. -/
theorem Bitwise.eq_sbox {f : Quad → Quad} {T : SBox} (hf : Bitwise f)
    (hT : ∀ n, f (.spread n) = .spread (SBox.at T n)) (x : Quad) : f x = sbox T x := by
  refine quad_eq_of_nibble_eq fun j hj => ?_
  calc (f x).nibble j
      = (f (.spread (x.nibble j))).nibble j := hf _ _ j (spread_nibble _ hj).symm
    _ = SBox.at T (x.nibble j) := by rw [hT, spread_nibble _ hj]
    _ = (sbox T x).nibble j := (sbox_nibble T x hj).symm

/-- The forward formulas are built of XOR, AND and the constant, which act on each bit position. -/
theorem forwardCircuits_bitwise : ∀ i : Fin 8, Bitwise forwardCircuits[i.val] := by
  intro i x y j h
  obtain ⟨h0, h1, h2, h3⟩ := nibble_eq_iff.1 h
  rw [nibble_eq_iff]
  match i with
  | 0 | 1 | 2 | 3 | 4 | 5 | 6 | 7 =>
    simp [forwardCircuits, anfS0, anfS1, anfS2, anfS3, anfS4, anfS5, anfS6, anfS7, h0, h1, h2, h3]

/-- Each forward formula on each of the 16 nibbles. -/
theorem forwardCircuits_spread : ∀ (i : Fin 8) (n : BitVec 4),
    forwardCircuits[i.val] (.spread n) = .spread (SBox.at (forwardBox i) n) := by decide

/-- Settles O51, nibble by nibble. -/
theorem forwardFormulasAreTheTables : Obligations.ForwardFormulasAreTheTables :=
  fun i => (forwardCircuits_bitwise i).eq_sbox (forwardCircuits_spread i)

end Sys2Proof.Machine
end

section
/-! PROOFS. The statements of 42_serpent_keyschedule.md sections 2 to 4: the pre-keys as a list that satisfies its recurrence,
the groups of the schedule, and the key that spells its padding out. -/

namespace Sys2Proof.Machine

/-! ### The pre-keys (42_serpent_keyschedule.md R136) -/

/-- The words of a window, oldest first. -/
def Window.words (w : Window) : List Word := [w.w8, w.w7, w.w6, w.w5, w.w4, w.w3, w.w2, w.w1]

/-- The padded key stands in the window before the first pre-key (42_serpent_keyschedule.md R135). -/
theorem keyWindow_words (key : List Byte) : (keyWindow key).words = (List.range 8).map (paddedWord key) := rfl

/-- The first pre-key takes its window one place on. -/
theorem words_append_preKeysFrom_succ (n i : Nat) (w : Window) :
    w.words ++ preKeysFrom (n + 1) i w =
      w.w8 :: ((w.push (nextPreKey w i)).words ++ preKeysFrom n (i + 1) (w.push (nextPreKey w i))) := rfl

/-- Behind any window, each pre-key is the recurrence's value of the eight words before it. -/
theorem preKeysFrom_recurrence : ∀ (n i : Nat) (w : Window) (k : Nat), k < n →
    let l := w.words ++ preKeysFrom n i w
    l.getD (k + 8) 0 = rotl (l.getD k 0 ^^^ l.getD (k + 3) 0 ^^^ l.getD (k + 5) 0 ^^^ l.getD (k + 7) 0 ^^^ phi ^^^
      BitVec.ofNat 32 (i + k)) 11
  | _ + 1, _, _, 0, _ => rfl
  | n + 1, i, w, k + 1, hk => by
    have ih := preKeysFrom_recurrence n (i + 1) (w.push (nextPreKey w i)) k (Nat.lt_of_succ_lt_succ hk)
    rw [Nat.add_right_comm i 1 k] at ih
    rw [words_append_preKeysFrom_succ]
    exact ih

/-- Settles O53: the window before the pre-keys is the padded key. -/
theorem preKeysSatisfyTheRecurrence : Obligations.PreKeysSatisfyTheRecurrence := by
  refine fun key => ⟨preKeysFrom_length 132 0 _, fun i hi => ?_⟩
  have h := preKeysFrom_recurrence 132 0 (keyWindow key) i hi
  rwa [Nat.zero_add, keyWindow_words] at h

/-! ### The groups (42_serpent_keyschedule.md R137) -/

/-- Four neighbouring words of a list, from word `4g` on. -/
def quadAt (ws : List Word) (g : Nat) : Quad :=
  ⟨ws.getD (4 * g) 0, ws.getD (4 * g + 1) 0, ws.getD (4 * g + 2) 0, ws.getD (4 * g + 3) 0⟩

/-- A group of the schedule is four neighbouring words of it (42_serpent_keyschedule.md R137). -/
theorem keyGroup_eq_quadAt (k : SerpentSchedule) (g : Fin 33) : keyGroup k g = quadAt k.toList g.val := by
  have hg := g.isLt
  have hword (n : Nat) (hn : n < 132) : k[n] = k.toList.getD n 0 := by
    rw [List.getD_eq_getElem _ _ (by simpa using hn), Vector.getElem_toList]
  exact quad_ext (hword _ _) (hword _ _) (hword _ _) (hword _ _)

/-- The S-box step takes each whole group of its words through that group's S-box. -/
theorem quadAt_boxGroups : ∀ (k : Nat) (ws : List Word) (g : Nat), 4 * g + 3 < ws.length →
    quadAt (boxGroups k ws) g = sbox (forwardBox (groupBox (k + g))) (quadAt ws g)
  | _, _ :: _ :: _ :: _ :: _, 0, _ => rfl
  | k, _ :: _ :: _ :: _ :: rest, g + 1, h => by
    have ih := quadAt_boxGroups (k + 1) rest g (by simp only [List.length_cons] at h; omega)
    rw [Nat.add_right_comm k 1 g] at ih
    exact ih
  | _, [], _, h | _, [_], _, h | _, [_, _], _, h | _, [_, _, _], _, h => by simp at h

/-- The S-boxes of the groups, in the rule's own order (42_serpent_keyschedule.md R137). -/
theorem groupBox_eq_getD : ∀ g : Fin 33, groupBox g.val = [(3 : Fin 8), 2, 1, 0, 7, 6, 5, 4].getD (g.val % 8) 0 := by
  decide

/-- Settles O54: the schedule's words are the S-box step's, from group 0 on. -/
theorem scheduleGroupsAreBoxedPreKeys : Obligations.ScheduleGroupsAreBoxedPreKeys := by
  intro key g
  have hlen : (preKeys key).length = 132 := preKeysFrom_length 132 0 _
  have hgroup := quadAt_boxGroups 0 (preKeys key) g.val (by omega)
  rw [Nat.zero_add, groupBox_eq_getD] at hgroup
  rw [keyGroup_eq_quadAt, serpentSchedule_toList]
  exact hgroup

/-! ### The padding (42_serpent_keyschedule.md R135, R141) -/

/-- A key enters the schedule through its eight padded words. -/
theorem keyWindow_congr {key key' : List Byte} (h : ∀ j < 8, paddedWord key j = paddedWord key' j) :
    keyWindow key = keyWindow key' := by
  simp only [keyWindow, Nat.reduceLT, h]

/-- A word that lies in the first of two arrays. -/
theorem le32_append_left {A : List Byte} {a : Nat} (ha : a + 4 ≤ A.length) (B : List Byte) :
    le32 (A ++ B) a = le32 A a := by
  have hread : memRead (A ++ B) a 4 = memRead A a 4 := by
    rw [memRead, List.drop_append_of_le_length (by omega), List.take_append_of_le_length (by simp; omega), memRead]
  rw [le32, hread, le32]

/-- A word that lies in the second of two arrays. -/
theorem le32_append_right (A B : List Byte) (a : Nat) : le32 (A ++ B) (A.length + a) = le32 B a := by
  rw [le32, memRead, List.drop_length_add_append, le32, memRead]

/-- The word of four zero bytes. -/
theorem le32_replicate_zero {n a : Nat} (ha : a + 4 ≤ n) : le32 (List.replicate n 0) a = 0 := by
  rw [le32, memRead, List.drop_replicate, List.take_replicate, Nat.min_eq_left (by omega)]
  decide

/-- A key with its padding spelled out has the padded words of the key (42_serpent_keyschedule.md R135). -/
theorem paddedWord_spelledOut {key : List Byte} {m j : Nat} (hkey : key.length = 4 * m) (hm : m < 8) (hj : j < 8) :
    paddedWord (key ++ [0x01, 0x00, 0x00, 0x00] ++ List.replicate (28 - 4 * m) 0x00) j = paddedWord key j := by
  have hlen : (key ++ [0x01, 0x00, 0x00, 0x00] ++ List.replicate (28 - 4 * m) (0x00 : Byte)).length = 32 := by
    simp; omega
  have hwords : key.length / 4 = m := by omega
  simp only [paddedWord, hlen, hwords, Nat.reduceDiv, if_pos hj]
  rcases Nat.lt_trichotomy j m with h | rfl | h
  · rw [if_pos h, List.append_assoc, le32_append_left (by omega)]
  · rw [if_neg (Nat.lt_irrefl j), if_pos rfl, List.append_assoc, ← hkey]
    calc le32 (key ++ ([0x01, 0x00, 0x00, 0x00] ++ _)) key.length
        = le32 ([0x01, 0x00, 0x00, 0x00] ++ _) 0 := le32_append_right key _ 0
      _ = le32 [0x01, 0x00, 0x00, 0x00] 0 := le32_append_left (by decide) _
      _ = 1 := by decide
  · obtain ⟨d, rfl⟩ := Nat.exists_eq_add_of_lt h
    have hplace : 4 * (m + d + 1) = (key ++ [0x01, 0x00, 0x00, (0x00 : Byte)]).length + 4 * d := by simp; omega
    rw [if_neg (by omega), if_neg (by omega), hplace, le32_append_right]
    exact le32_replicate_zero (by omega)

/-- Settles O55: the two keys have the same padded words. -/
theorem spelledOutPaddingGivesTheSameSchedule : Obligations.SpelledOutPaddingGivesTheSameSchedule :=
  fun _ _ hkey hm => serpentSchedule_congr (keyWindow_congr fun _ hj => paddedWord_spelledOut hkey hm hj)

end Sys2Proof.Machine
end

section
/-! PROOFS. The statements of 42_serpent_keyschedule.md section 5: the checks of `SERPENT.MAKE_SCHEDULE`, each on the keys
it refuses, its command word and its effect. -/

namespace Sys2Proof.Machine

/-! ### The checks (42_serpent_keyschedule.md R138, R139, R140) -/

/-- The size check, as its three conditions (42_serpent_keyschedule.md R139). -/
theorem serpentSizeOk_iff {klen : Nat} : serpentSizeOk klen = true ↔ 1 ≤ klen ∧ klen ≤ 32 ∧ klen % 4 = 0 := by
  simp [serpentSizeOk, and_assoc]

/-- The type is checked first, for every size and variant. -/
theorem serpentKeyStatus_other (v : SerpentVariant) (klen : Nat) :
    serpentKeyStatus v .other klen = .unsupportedType := rfl

/-- The general size is checked before the variant's. -/
theorem serpentKeyStatus_invalidSize (v : SerpentVariant) {klen : Nat} (h : ¬(1 ≤ klen ∧ klen ≤ 32 ∧ klen % 4 = 0)) :
    serpentKeyStatus v .raw klen = .invalidSize := by
  have hsize : serpentSizeOk klen = false := Bool.eq_false_iff.2 (mt serpentSizeOk_iff.1 h)
  simp [serpentKeyStatus, hsize]

section legalSize
variable {v : SerpentVariant} {klen : Nat} (h : 1 ≤ klen ∧ klen ≤ 32 ∧ klen % 4 = 0)
include h

/-- A legal size that is not the fixed variant's (42_serpent_keyschedule.md R140). -/
theorem serpentKeyStatus_wrongLength {n : Nat} (hv : v.keyLength = some n) (hn : klen ≠ n) :
    serpentKeyStatus v .raw klen = .wrongLength := by
  simp [serpentKeyStatus, serpentSizeOk_iff.2 h, hv, hn]

/-- A legal size is accepted where no variant is fixed, or the variant's size is this one. -/
theorem serpentKeyStatus_accepted (hv : v.keyLength = none ∨ v.keyLength = some klen) :
    serpentKeyStatus v .raw klen = .ok := by
  rcases hv with hv | hv <;> simp [serpentKeyStatus, serpentSizeOk_iff.2 h, hv]

end legalSize

/-- The lengths the rule lists are those of its size check (42_serpent_keyschedule.md R139). -/
theorem mem_serpentLengths_iff {klen : Nat} :
    klen ∈ [4, 8, 12, 16, 20, 24, 28, 32] ↔ 1 ≤ klen ∧ klen ≤ 32 ∧ klen % 4 = 0 := by
  simp only [List.mem_cons, List.not_mem_nil, or_false]
  omega

/-- Settles O56: with no fixed variant the size check alone decides. -/
theorem serpentAcceptsTheEightLengths : Obligations.SerpentAcceptsTheEightLengths :=
  fun _ => ⟨fun h => serpentKeyStatus_accepted (mem_serpentLengths_iff.1 h) (.inl rfl),
    fun h => serpentKeyStatus_invalidSize _ (mt mem_serpentLengths_iff.2 h)⟩

/-! ### The command (42_serpent_keyschedule.md R138) -/

/-- The fields of a `SERPENT.MAKE_SCHEDULE`, written into its match word, give its encoding (30_encoding.md R63). -/
theorem encode_serpentMakeSchedule_eq_or (n : BitVec 8) (dir : Direction) (ktype : KeyType) :
    encode (.serpentMakeSchedule dir ktype n.toNat) =
      0x00000009#32 ||| (n.setWidth 32 <<< 8) ||| (ktype.bit.setWidth 32 <<< 5) ||| (dir.bit.setWidth 32 <<< 4) := by
  have hhead : (1 : BitVec 3).setWidth 32 ||| ((1 : BitVec 1).setWidth 32 <<< 3) = 0x00000009#32 := by decide
  rw [encode, assemble_eq_or, hhead, BitVec.ofNat_toNat, BitVec.setWidth_eq]

/-- A `SERPENT.MAKE_SCHEDULE` whose checks end with an error takes its command, answers that error and writes nothing
else. -/
theorem exec_serpentMakeSchedule_refused {s : State} {r : Request} {rest : List HostEvent}
    (h : s.issued = .command r :: rest) (dir : Direction) {ktype : KeyType} {klen : Nat} {st : Status}
    (hst : serpentKeyStatus s.variant ktype klen = st) (hne : st ≠ .ok) :
    exec (.serpentMakeSchedule dir ktype klen) s =
      .next { s with issued := rest, responses := s.responses ++ [⟨st, none, none⟩] } := by
  subst hst
  rw [exec_serpentMakeSchedule_error h dir hne, deliver_of_issued h]
  rfl

/-- Settles O17: the word is the command's encoding, each failed check ends with its status alone, and a key that passes
them is scheduled. -/
theorem serpentMakeScheduleWritesTheSchedule : Obligations.SerpentMakeScheduleWritesTheSchedule := by
  refine ⟨fun n dir ktype => ?_, fun s r rest dir h =>
    ⟨fun klen => ?_, fun klen hsize => ?_, fun klen n hlow hhigh hmod hv hn => ?_, fun klen hlow hhigh hmod hv => ?_⟩⟩
  · exact decode_ok_iff_encode.2
      ⟨decide_eq_true (Nat.le_of_lt_succ n.isLt), encode_serpentMakeSchedule_eq_or n dir ktype⟩
  · exact exec_serpentMakeSchedule_refused h dir (serpentKeyStatus_other _ klen) (by decide)
  · exact exec_serpentMakeSchedule_refused h dir (serpentKeyStatus_invalidSize _ (by omega)) (by decide)
  · exact exec_serpentMakeSchedule_refused h dir (serpentKeyStatus_wrongLength ⟨hlow, hhigh, hmod⟩ hv hn) (by decide)
  · rw [exec_serpentMakeSchedule_ok h dir (serpentKeyStatus_accepted ⟨hlow, hhigh, hmod⟩ hv),
      deliver_of_issued (s := s.setSerpent _) h]
    rfl

end Sys2Proof.Machine
end

section
/-! PROOFS. The statements of 43_serpent_block.md section 2: each inverse S-box undoes its S-box nibble by nibble, and the
inverse formulas are a circuit of the inverse tables. -/

namespace Sys2Proof.Machine

/-! ### The inverse S-boxes (43_serpent_block.md R152) -/

theorem inverseBox_forwardBox : ∀ (i : Fin 8) (n : BitVec 4), SBox.at (inverseBox i) (SBox.at (forwardBox i) n) = n := by
  decide

theorem forwardBox_inverseBox : ∀ (i : Fin 8) (n : BitVec 4), SBox.at (forwardBox i) (SBox.at (inverseBox i) n) = n := by
  decide

/-- An S-box undoes another on four-word values when its table undoes the other's on nibbles. -/
theorem sbox_sbox_of_at_at {T T' : SBox} (h : ∀ n, SBox.at T' (SBox.at T n) = n) (x : Quad) : sbox T' (sbox T x) = x := by
  refine quad_eq_of_nibble_eq fun j hj => ?_
  rw [sbox_nibble T' _ hj, sbox_nibble T x hj, h]

@[simp] theorem sbox_inverseBox_forwardBox (i : Fin 8) (x : Quad) : sbox (inverseBox i) (sbox (forwardBox i) x) = x :=
  sbox_sbox_of_at_at (inverseBox_forwardBox i) x

@[simp] theorem sbox_forwardBox_inverseBox (i : Fin 8) (x : Quad) : sbox (forwardBox i) (sbox (inverseBox i) x) = x :=
  sbox_sbox_of_at_at (forwardBox_inverseBox i) x

/-- Settles O57: the tables undo each other on the 16 nibbles, so the S-boxes do at each bit position. -/
theorem inverseBoxesInvert : Obligations.InverseBoxesInvert :=
  fun i => ⟨inverseBox_forwardBox i, fun x => ⟨sbox_inverseBox_forwardBox i x, sbox_forwardBox_inverseBox i x⟩⟩

/-! ### The inverse formulas (43_serpent_block.md R153) -/

/-- The inverse formulas are built of XOR, AND and the constant, which act on each bit position. -/
theorem inverseCircuits_bitwise : ∀ i : Fin 8, Bitwise inverseCircuits[i.val] := by
  intro i x y j h
  obtain ⟨h0, h1, h2, h3⟩ := nibble_eq_iff.1 h
  rw [nibble_eq_iff]
  match i with
  | 0 | 1 | 2 | 3 | 4 | 5 | 6 | 7 =>
    simp [inverseCircuits, anfSI0, anfSI1, anfSI2, anfSI3, anfSI4, anfSI5, anfSI6, anfSI7, h0, h1, h2, h3]

/-- Each inverse formula on each of the 16 nibbles. -/
theorem inverseCircuits_spread : ∀ (i : Fin 8) (n : BitVec 4),
    inverseCircuits[i.val] (.spread n) = .spread (SBox.at (inverseBox i) n) := by decide

/-- Settles O52, nibble by nibble. -/
theorem inverseFormulasAreTheTables : Obligations.InverseFormulasAreTheTables :=
  fun i => (inverseCircuits_bitwise i).eq_sbox (inverseCircuits_spread i)

end Sys2Proof.Machine
end

section
/-! PROOFS. The statements of 43_serpent_block.md section 3: `LT` is made of rotations, shifts and XOR, each linear, and
`ILT` takes back its assignments one by one. -/

namespace Sys2Proof.Machine

/-! ### The linear transform (43_serpent_block.md R154) -/

/-- A rotation moves bits and so distributes over XOR (00_scope.md R12). -/
theorem rotl_xor (a b : Word) {s : Nat} (hs : s < 32) : rotl (a ^^^ b) s = rotl a s ^^^ rotl b s := by
  apply BitVec.eq_of_getLsbD_eq
  intro j hj
  rw [BitVec.getLsbD_xor, rotl_getLsbD _ s j hs hj, rotl_getLsbD a s j hs hj, rotl_getLsbD b s j hs hj]
  split
  · exact BitVec.getLsbD_xor
  · exact BitVec.getLsbD_xor

/-- `LT` distributes over XOR, as its rotations and shifts do. -/
theorem lt_xor (x y : Quad) : lt (x.xor y) = (lt x).xor (lt y) := by
  apply quad_ext <;> simp (disch := decide) only [lt, Quad.xor, rotl_xor, BitVec.shiftLeft_xor_distrib] <;> ac_rfl

/-- Settles O58; the values at zero and at the printed input are computed. -/
theorem linearTransformIsLinear : Obligations.LinearTransformIsLinear := ⟨lt_xor, by decide, by decide⟩

/-! ### Its inverse (43_serpent_block.md R155) -/

/-- The rotations by `s` and by `32 - s` undo each other. -/
theorem rotl_rotl_of_add_eq {s s' : Nat} (h : s + s' = 32) (hs : 0 < s) (hs' : 0 < s') (a : Word) :
    rotl (rotl a s) s' = a := by
  apply BitVec.eq_of_getLsbD_eq
  intro j hj
  rw [rotl_getLsbD _ s' j (by omega) hj]
  split
  · rw [rotl_getLsbD a s _ (by omega) (by omega), if_neg (by omega)]
    congr 1
    omega
  · rw [rotl_getLsbD a s _ (by omega) (by omega), if_pos (by omega)]
    congr 1
    omega

theorem rotr_rotl (a : Word) {s : Nat} (hs : 0 < s) (hs' : s < 32) : rotr (rotl a s) s = a :=
  rotl_rotl_of_add_eq (by omega) hs (by omega) a

theorem rotl_rotr (a : Word) {s : Nat} (hs : 0 < s) (hs' : s < 32) : rotl (rotr a s) s = a :=
  rotl_rotl_of_add_eq (by omega) (by omega) hs a

/-- An assignment that mixes in two words is taken back by mixing them in again. -/
theorem xor_xor_xor_xor_cancel (a b c : Word) : a ^^^ b ^^^ c ^^^ b ^^^ c = a := by
  rw [BitVec.xor_assoc, BitVec.xor_assoc, BitVec.xor_assoc, ← BitVec.xor_assoc b c, BitVec.xor_self, BitVec.xor_zero]

theorem ilt_lt (x : Quad) : ilt (lt x) = x := by
  simp (disch := decide) only [ilt, lt, rotr_rotl, xor_xor_xor_xor_cancel]

theorem lt_ilt (x : Quad) : lt (ilt x) = x := by
  simp (disch := decide) only [ilt, lt, rotl_rotr, xor_xor_xor_xor_cancel]

/-- Settles O59: each assignment takes back the corresponding one of the other transform. -/
theorem inverseLinearTransformInverts : Obligations.InverseLinearTransformInverts := fun x => ⟨ilt_lt x, lt_ilt x⟩

end Sys2Proof.Machine
end

section
/-! PROOFS. The statements of 43_serpent_block.md sections 4 and 5: each round undoes the other direction's round, what the
two block commands answer, and that each undoes the other. -/

namespace Sys2Proof.Machine

/-! ### Rounds (43_serpent_block.md R156, R157) -/

theorem encryptRound_of_lt (k : SerpentSchedule) (x : Quad) {n : Nat} (h : n < 31) :
    encryptRound k x n = lt (sbox (forwardBox (Fin.ofNat 8 n)) (addKey k (Fin.ofNat 33 n) x)) := if_pos h

/-- The last round has no `LT`. -/
theorem encryptRound_last (k : SerpentSchedule) (x : Quad) :
    encryptRound k x 31 = sbox (forwardBox 7) (addKey k 31 x) := rfl

theorem decryptRound_of_lt (k : SerpentSchedule) (x : Quad) {n : Nat} (h : n < 31) :
    decryptRound k x n = addKey k (Fin.ofNat 33 n) (sbox (inverseBox (Fin.ofNat 8 n)) (ilt x)) := by
  rw [decryptRound, if_pos h]

/-- The first round of decryption has no `ILT`. -/
theorem decryptRound_last (k : SerpentSchedule) (x : Quad) :
    decryptRound k x 31 = addKey k 31 (sbox (inverseBox 7) x) := rfl

theorem decryptRound_encryptRound (k : SerpentSchedule) (x : Quad) (n : Nat) :
    decryptRound k (encryptRound k x n) n = x := by
  by_cases h : n < 31
  · rw [encryptRound_of_lt k x h, decryptRound_of_lt k _ h, ilt_lt, sbox_inverseBox_forwardBox, addKey_addKey]
  · simp only [encryptRound, decryptRound, if_neg h, sbox_inverseBox_forwardBox, addKey_addKey]

theorem encryptRound_decryptRound (k : SerpentSchedule) (x : Quad) (n : Nat) :
    encryptRound k (decryptRound k x n) n = x := by
  by_cases h : n < 31
  · rw [decryptRound_of_lt k x h, encryptRound_of_lt k _ h, addKey_addKey, sbox_forwardBox_inverseBox, lt_ilt]
  · simp only [encryptRound, decryptRound, if_neg h, sbox_forwardBox_inverseBox, addKey_addKey]

/-- Steps that undo each other one by one undo each other in the reverse order. -/
theorem foldl_reverse_foldl {α β : Type} {f g : β → α → β} (h : ∀ b a, g (f b a) a = b) : ∀ (l : List α) (b : β),
    l.reverse.foldl g (l.foldl f b) = b
  | [], _ => rfl
  | a :: l, b => by
    rw [List.foldl_cons, List.reverse_cons, List.foldl_append, foldl_reverse_foldl h l, List.foldl_cons, List.foldl_nil,
      h]

/-! ### The transform of a block (43_serpent_block.md R160, R161) -/

theorem serpentEncryptQuad_eq (k : SerpentSchedule) (x : Quad) :
    serpentEncryptQuad k x = addKey k 32 (sbox (forwardBox 7) (addKey k 31 ((List.range 31).foldl
      (fun d n => lt (sbox (forwardBox (Fin.ofNat 8 n)) (addKey k (Fin.ofNat 33 n) d))) x))) := by
  rw [serpentEncryptQuad, List.range_succ, List.foldl_append, List.foldl_cons, List.foldl_nil, encryptRound_last,
    List.foldl_ext _ _ _ fun d n hn => encryptRound_of_lt k d (List.mem_range.1 hn)]

theorem serpentDecryptQuad_eq (k : SerpentSchedule) (x : Quad) :
    serpentDecryptQuad k x = (List.range 31).foldr
      (fun n d => addKey k (Fin.ofNat 33 n) (sbox (inverseBox (Fin.ofNat 8 n)) (ilt d)))
      (addKey k 31 (sbox (inverseBox 7) (addKey k 32 x))) := by
  rw [serpentDecryptQuad, List.foldl_reverse, List.range_succ, List.foldr_append, List.foldr_cons, List.foldr_nil,
    decryptRound_last]
  exact List.foldr_ext _ _ _ fun n hn d => decryptRound_of_lt k d (List.mem_range.1 hn)

theorem serpentDecryptQuad_serpentEncryptQuad (k : SerpentSchedule) (x : Quad) :
    serpentDecryptQuad k (serpentEncryptQuad k x) = x := by
  rw [serpentDecryptQuad, serpentEncryptQuad, addKey_addKey, foldl_reverse_foldl (decryptRound_encryptRound k)]

theorem serpentEncryptQuad_serpentDecryptQuad (k : SerpentSchedule) (x : Quad) :
    serpentEncryptQuad k (serpentDecryptQuad k x) = x := by
  have hrounds := foldl_reverse_foldl (encryptRound_decryptRound k) (List.range 32).reverse (addKey k 32 x)
  rw [List.reverse_reverse] at hrounds
  rw [serpentEncryptQuad, serpentDecryptQuad, hrounds, addKey_addKey]

/-! ### What the commands answer (43_serpent_block.md R150, R160, R161) -/

/-- The block port of a SERPENT command holds the sixteen bytes of a block (20_memory.md R40). -/
theorem serpentDin_length (r : Request) : r.din.toList.length = 16 := r.din.length_toList

theorem serpentEncrypt_of_length (k : SerpentSchedule) {din : List Byte} (h : din.length = 16) :
    serpentEncrypt k din = storeQuad (serpentEncryptQuad k (loadQuad din)) := by rw [serpentEncrypt, memRead_all din 16 h]

theorem serpentDecrypt_of_length (k : SerpentSchedule) {din : List Byte} (h : din.length = 16) :
    serpentDecrypt k din = storeQuad (serpentDecryptQuad k (loadQuad din)) := by rw [serpentDecrypt, memRead_all din 16 h]

/-- The stored block is the bytes of its four words in order (43_serpent_block.md R150). -/
theorem storeQuad_eq_flatMap (x : Quad) : storeQuad x = [x.d0, x.d1, x.d2, x.d3].flatMap bytesLe := by
  simp [storeQuad]

/-- Settles O20: the refusal and the answer of the command, with the rounds of a whole block. -/
theorem serpentEncryptBlockAnswersTheCiphertext : Obligations.SerpentEncryptBlockAnswersTheCiphertext := by
  refine ⟨decode_ok_iff_encode.2 ⟨rfl, by decide⟩, fun s r rest h => ⟨fun he => ?_, fun k he => ?_⟩⟩
  · rw [(exec_serpentBlock_uninit h he).1, deliver_of_issued h]
    rfl
  · rw [(exec_serpentBlock_ready h he).1, deliver_of_issued h, serpentEncrypt_of_length k (serpentDin_length r),
      serpentEncryptQuad_eq, storeQuad_eq_flatMap]
    rfl

/-- Settles O21: the refusal and the answer of the command, with the rounds of a whole block. -/
theorem serpentDecryptBlockAnswersThePlaintext : Obligations.SerpentDecryptBlockAnswersThePlaintext := by
  refine ⟨decode_ok_iff_encode.2 ⟨rfl, by decide⟩, fun s r rest h => ⟨fun he => ?_, fun k he => ?_⟩⟩
  · rw [(exec_serpentBlock_uninit h he).2, deliver_of_issued h]
    rfl
  · rw [(exec_serpentBlock_ready h he).2, deliver_of_issued h, serpentDecrypt_of_length k (serpentDin_length r),
      serpentDecryptQuad_eq, storeQuad_eq_flatMap]
    rfl

/-! ### Each command undoes the other (43_serpent_block.md R162) -/

theorem serpentDecrypt_serpentEncrypt (k : SerpentSchedule) {din : List Byte} (h : din.length = 16) :
    serpentDecrypt k (serpentEncrypt k din) = din := by
  rw [serpentEncrypt_of_length k h, serpentDecrypt_of_length k (storeQuad_length _), loadQuad_storeQuad,
    serpentDecryptQuad_serpentEncryptQuad, storeQuad_loadQuad h]

theorem serpentEncrypt_serpentDecrypt (k : SerpentSchedule) {din : List Byte} (h : din.length = 16) :
    serpentEncrypt k (serpentDecrypt k din) = din := by
  rw [serpentDecrypt_of_length k h, serpentEncrypt_of_length k (storeQuad_length _), loadQuad_storeQuad,
    serpentEncryptQuad_serpentDecryptQuad, storeQuad_loadQuad h]

/-- Settles O60: the second command's block is the first one's answer, whose transform is the first one's block. -/
theorem serpentBlockCommandsInvertEachOther : Obligations.SerpentBlockCommandsInvertEachOther := by
  intro s t u k r r' rest rest' dout i j hij hs h ht hresp hu h' hdin
  rcases hij with ⟨rfl, rfl⟩ | ⟨rfl, rfl⟩
  · have hdout := dout_of_exec_block (exec_serpentBlock_ready h hs).1 ht hresp
    rw [(exec_serpentBlock_ready h' hu).2, hdin, hdout, serpentDecrypt_serpentEncrypt k (serpentDin_length r),
      deliver_of_issued h']
    rfl
  · have hdout := dout_of_exec_block (exec_serpentBlock_ready h hs).2 ht hresp
    rw [(exec_serpentBlock_ready h' hu).1, hdin, hdout, serpentEncrypt_serpentDecrypt k (serpentDin_length r),
      deliver_of_issued h']
    rfl

end Sys2Proof.Machine
end

section
/-! PROOFS. The statements of 44_contract_ops.md: the two `BLOCK_SIZE` commands, the comparison of the key's thirds, and
`DIR`, which no command reads. -/

namespace Sys2Proof.Machine

/-! ### The scalars (44_contract_ops.md R181, R182, R184) -/

/-- A part of an array lies in the array's first `m` bytes where it ends by then (20_memory.md R41). -/
theorem memRead_take (A : List Byte) {a n m : Nat} (h : a + n ≤ m) : memRead (A.take m) a n = memRead A a n := by
  rw [memRead, memRead, List.drop_take, List.take_take, Nat.min_eq_left (by omega)]

/-- On the first 24 bytes of a key port the strength is told by comparing neighbouring thirds; the rule's third comparison
follows from these two. -/
theorem effectiveStrength_take (K : List Byte) :
    effectiveStrength (K.take 24) =
      if K.take 8 = (K.drop 8).take 8 ∧ (K.drop 8).take 8 = (K.drop 16).take 8 then 56 else 112 := by
  have hthird (a : Nat) (ha : a + 8 ≤ 24) : memRead (K.take 24) a 8 = (K.drop a).take 8 := memRead_take K ha
  have hpair (A B C : List Byte) : (A = B ∧ B = C ∧ A = C) ↔ (A = B ∧ B = C) :=
    ⟨fun ⟨hAB, hBC, _⟩ => ⟨hAB, hBC⟩, fun ⟨hAB, hBC⟩ => ⟨hAB, hBC, hAB.trans hBC⟩⟩
  simp only [effectiveStrength, hthird 0 (by omega), hthird 8 (by omega), hthird 16 (by omega), hpair, List.drop_zero]

/-- The length of a `TDES.EFFECTIVE_STRENGTH`, written into its match word, gives its encoding (30_encoding.md R63). -/
theorem encode_tdesEffectiveStrength_eq_or (n : BitVec 8) :
    encode (.tdesEffectiveStrength n.toNat) = 0x00000004#32 ||| (n.setWidth 32 <<< 8) := by
  have hhead : (4 : BitVec 3).setWidth 32 ||| ((0 : BitVec 1).setWidth 32 <<< 3) = 0x00000004#32 := by decide
  rw [encode, assemble_eq_or, hhead, BitVec.ofNat_toNat, BitVec.setWidth_eq]
  simp

section scalars
variable {s : State} {r : Request} {rest : List HostEvent} (h : s.issued = .command r :: rest)
include h

/-- On 24 key bytes `TDES.EFFECTIVE_STRENGTH` answers their strength. -/
theorem exec_tdesEffectiveStrength_ok :
    exec (.tdesEffectiveStrength 24) s = .next { s with
      issued := rest
      responses := s.responses ++ [⟨.ok, none, some (effectiveStrength (r.key.toList.take 24))⟩] } :=
  (withRequest_of_issued h _).trans (completeScalar_of_issued h _)

/-- On any other length `TDES.EFFECTIVE_STRENGTH` ends with `WrongLength`. -/
theorem exec_tdesEffectiveStrength_wrongLength {klen : Nat} (hlen : klen ≠ 24) :
    exec (.tdesEffectiveStrength klen) s =
      .next { s with issued := rest, responses := s.responses ++ [⟨.wrongLength, none, none⟩] } := by
  simp only [exec, execTdesEffectiveStrength, withRequest_of_issued h, strengthStatus, if_pos hlen, raise_of_issued h]

end scalars

/-- Settles O15: the word is the command's encoding, and the strength is told by the thirds of the key operand. -/
theorem effectiveStrengthComparesTheThreeThirds : Obligations.EffectiveStrengthComparesTheThreeThirds := by
  refine ⟨fun n => ?_, fun s r rest h =>
    ⟨fun klen hlen => exec_tdesEffectiveStrength_wrongLength h hlen, fun hequal => ?_, fun hdiffer => ?_⟩⟩
  · exact decode_ok_iff_encode.2 ⟨decide_eq_true (Nat.le_of_lt_succ n.isLt), encode_tdesEffectiveStrength_eq_or n⟩
  · rw [exec_tdesEffectiveStrength_ok h, effectiveStrength_take, if_pos hequal]
  · rw [exec_tdesEffectiveStrength_ok h, effectiveStrength_take, if_neg hdiffer]

/-- Settles O13: the word is the command's encoding, and the answer depends on nothing. -/
theorem tdesBlockSizeAnswersEight : Obligations.TdesBlockSizeAnswersEight :=
  ⟨decode_ok_iff_encode.2 ⟨rfl, by decide⟩,
    fun _ _ _ h => (withRequest_of_issued h _).trans (completeScalar_of_issued h 8)⟩

/-- Settles O14: the word is the command's encoding, and the answer depends on nothing, the variant included. -/
theorem serpentBlockSizeAnswersSixteen : Obligations.SerpentBlockSizeAnswersSixteen :=
  ⟨decode_ok_iff_encode.2 ⟨rfl, by decide⟩,
    fun _ _ _ h => (withRequest_of_issued h _).trans (completeScalar_of_issued h 16)⟩

/-! ### The direction (44_contract_ops.md R183) -/

/-- `TDES.MAKE_SCHEDULE` does not read `DIR`. -/
theorem exec_tdesMakeSchedule_dir (dir dir' : Direction) (ktype : KeyType) (klen : Nat) (s : State) :
    exec (.tdesMakeSchedule dir ktype klen) s = exec (.tdesMakeSchedule dir' ktype klen) s := rfl

/-- `SERPENT.MAKE_SCHEDULE` does not read `DIR`. -/
theorem exec_serpentMakeSchedule_dir (dir dir' : Direction) (ktype : KeyType) (klen : Nat) (s : State) :
    exec (.serpentMakeSchedule dir ktype klen) s = exec (.serpentMakeSchedule dir' ktype klen) s := rfl

/-- A command that answers a status alone answers no other. -/
theorem status_of_exec_bare {i : Instr} {s t : State} {st st' : Status} (he : exec i s = .next (s.deliver (.bare st)))
    (ht : exec i s = .next t) (hresp : t.responses = s.responses ++ [⟨st', none, none⟩]) : st = st' := by
  obtain rfl := Host.Outcome.next.inj (he.symm.trans ht)
  simpa [Response.bare] using hresp

/-- After a `TDES.MAKE_SCHEDULE` that ended with `OK` the sub-engine is ready. -/
theorem tdes_ready_of_ok {dir : Direction} {ktype : KeyType} {klen : Nat} {s t : State}
    (ht : exec (.tdesMakeSchedule dir ktype klen) s = .next t)
    (hresp : t.responses = s.responses ++ [⟨.ok, none, none⟩]) : ∃ k, t.tdes = .ready k := by
  obtain ⟨r, rest, h⟩ := exec_next ht
  by_cases hok : tdesKeyStatus ktype klen = .ok
  · obtain ⟨rfl, rfl⟩ := tdesKeyStatus_ok.1 hok
    obtain rfl := Host.Outcome.next.inj ((exec_tdesMakeSchedule_ok h dir).symm.trans ht)
    exact ⟨_, rfl⟩
  · exact absurd (status_of_exec_bare (exec_tdesMakeSchedule_error h dir hok) ht hresp) hok

/-- After a `SERPENT.MAKE_SCHEDULE` that ended with `OK` the sub-engine is ready. -/
theorem serpent_ready_of_ok {dir : Direction} {ktype : KeyType} {klen : Nat} {s t : State}
    (ht : exec (.serpentMakeSchedule dir ktype klen) s = .next t)
    (hresp : t.responses = s.responses ++ [⟨.ok, none, none⟩]) : ∃ k, t.serpent = .ready k := by
  obtain ⟨r, rest, h⟩ := exec_next ht
  by_cases hok : serpentKeyStatus s.variant ktype klen = .ok
  · obtain ⟨rfl, -⟩ := serpentKeyStatus_ok hok
    obtain rfl := Host.Outcome.next.inj ((exec_serpentMakeSchedule_ok h dir hok).symm.trans ht)
    exact ⟨_, rfl⟩
  · exact absurd (status_of_exec_bare (exec_serpentMakeSchedule_error h dir hok) ht hresp) hok

/-- Settles O27: `DIR` is not read, and `OK` leaves the sub-engine ready, in which both block commands answer a block. -/
theorem directionHasNoEffect : Obligations.DirectionHasNoEffect := by
  refine ⟨fun ktype klen s => ⟨exec_tdesMakeSchedule_dir .dec .enc ktype klen s,
    exec_serpentMakeSchedule_dir .dec .enc ktype klen s⟩, fun dir ktype klen s t => ⟨?_, ?_⟩⟩
  · intro ht hresp r rest
    obtain ⟨k, hk⟩ := tdes_ready_of_ok ht hresp
    obtain ⟨henc, hdec⟩ := exec_tdesBlock_ready (s := { t with issued := .command r :: rest }) rfl hk
    simp only [List.forall_mem_cons]
    exact ⟨⟨_, _, henc, rfl⟩, ⟨_, _, hdec, rfl⟩, List.forall_mem_nil _⟩
  · intro ht hresp r rest
    obtain ⟨k, hk⟩ := serpent_ready_of_ok ht hresp
    obtain ⟨henc, hdec⟩ := exec_serpentBlock_ready (s := { t with issued := .command r :: rest }) rfl hk
    simp only [List.forall_mem_cons]
    exact ⟨⟨_, _, henc, rfl⟩, ⟨_, _, hdec, rfl⟩, List.forall_mem_nil _⟩

end Sys2Proof.Machine
end

section
/-! PROOFS. The statements of 60_exceptions.md: a block command's refusal, the status each command ends with, what an error
writes, and that no step reads a response. -/

namespace Sys2Proof.Machine

/-! ### Refusals (60_exceptions.md R207) -/

/-- The ready flag is 0 only in `Uninit` (10_state.md R25). -/
theorem eq_uninit_of_readyBit {σ : Type} {e : SubEngine σ} (h : e.readyBit = 0) : e = .uninit := by
  cases e with
  | uninit => rfl
  | ready k => cases h

/-- Settles O22: an `Uninit` sub-engine refuses both its block commands, and a refusal writes nothing. -/
theorem blockCommandsAreRefusedWhileNotReady : Obligations.BlockCommandsAreRefusedWhileNotReady := by
  intro s r rest i h hi hready
  rw [← raise_of_issued h]
  cases i with
  | tdesEncryptBlock => exact (exec_tdesBlock_uninit h (eq_uninit_of_readyBit hready)).1
  | tdesDecryptBlock => exact (exec_tdesBlock_uninit h (eq_uninit_of_readyBit hready)).2
  | serpentEncryptBlock => exact (exec_serpentBlock_uninit h (eq_uninit_of_readyBit hready)).1
  | serpentDecryptBlock => exact (exec_serpentBlock_uninit h (eq_uninit_of_readyBit hready)).2
  | tdesBlockSize | tdesMakeSchedule | tdesEffectiveStrength | serpentBlockSize | serpentMakeSchedule => cases hi

/-! ### The status of each command (60_exceptions.md R209) -/

/-- Command `i`, run in `s`, delivers one response, of status `st`. -/
def EndsWith (i : Instr) (s : State) (st : Status) : Prop :=
  ∃ t resp, exec i s = .next t ∧ t.responses = s.responses ++ [resp] ∧ resp.status = st

/-- The checks of `TDES.MAKE_SCHEDULE`, the legal length first. -/
theorem tdesKeyStatus_eq (ktype : KeyType) (klen : Nat) :
    tdesKeyStatus ktype klen = if ktype = .other then .unsupportedType else if klen = 24 then .ok else .wrongLength := by
  simp only [tdesKeyStatus, ne_eq, ite_not]

/-- The checks of `SERPENT.MAKE_SCHEDULE`, the sizes listed. -/
theorem serpentKeyStatus_eq (v : SerpentVariant) (ktype : KeyType) (klen : Nat) :
    serpentKeyStatus v ktype klen =
      if ktype = .other then .unsupportedType
      else if klen ∉ [4, 8, 12, 16, 20, 24, 28, 32] then .invalidSize
      else if v.keyLength = none ∨ v.keyLength = some klen then .ok
      else .wrongLength := by
  cases ktype with
  | other => rfl
  | raw =>
    rw [if_neg (by decide)]
    by_cases hsize : klen ∈ [4, 8, 12, 16, 20, 24, 28, 32]
    · have hlegal := mem_serpentLengths_iff.1 hsize
      rw [if_neg (not_not_intro hsize)]
      by_cases hv : v.keyLength = none ∨ v.keyLength = some klen
      · rw [if_pos hv, serpentKeyStatus_accepted hlegal hv]
      · obtain ⟨hnone, hother⟩ := not_or.1 hv
        obtain ⟨n, hn⟩ := Option.ne_none_iff_exists'.1 hnone
        rw [if_neg hv, serpentKeyStatus_wrongLength hlegal hn]
        rintro rfl
        exact hother hn
    · rw [if_pos hsize, serpentKeyStatus_invalidSize v (mt mem_serpentLengths_iff.2 hsize)]

section statuses
variable {s : State} {r : Request} {rest : List HostEvent} (h : s.issued = .command r :: rest)
include h

/-- `TDES.MAKE_SCHEDULE` ends with the status of its checks. -/
theorem tdesMakeSchedule_endsWith (dir : Direction) (ktype : KeyType) (klen : Nat) :
    EndsWith (.tdesMakeSchedule dir ktype klen) s (tdesKeyStatus ktype klen) := by
  by_cases hok : tdesKeyStatus ktype klen = .ok
  · obtain ⟨rfl, rfl⟩ := tdesKeyStatus_ok.1 hok
    exact ⟨_, _, exec_tdesMakeSchedule_ok h dir, rfl, rfl⟩
  · exact ⟨_, _, exec_tdesMakeSchedule_error h dir hok, rfl, rfl⟩

/-- `SERPENT.MAKE_SCHEDULE` ends with the status of its checks. -/
theorem serpentMakeSchedule_endsWith (dir : Direction) (ktype : KeyType) (klen : Nat) :
    EndsWith (.serpentMakeSchedule dir ktype klen) s (serpentKeyStatus s.variant ktype klen) := by
  by_cases hok : serpentKeyStatus s.variant ktype klen = .ok
  · obtain ⟨rfl, -⟩ := serpentKeyStatus_ok hok
    exact ⟨_, _, exec_serpentMakeSchedule_ok h dir hok, rfl, hok.symm⟩
  · exact ⟨_, _, exec_serpentMakeSchedule_error h dir hok, rfl, rfl⟩

/-- `TDES.EFFECTIVE_STRENGTH` ends with `OK` on 24 key bytes and with `WrongLength` on any other number. -/
theorem tdesEffectiveStrength_endsWith (klen : Nat) :
    EndsWith (.tdesEffectiveStrength klen) s (if klen = 24 then .ok else .wrongLength) := by
  by_cases hlen : klen = 24
  · subst hlen
    exact ⟨_, _, exec_tdesEffectiveStrength_ok h, rfl, rfl⟩
  · rw [if_neg hlen]
    exact ⟨_, _, exec_tdesEffectiveStrength_wrongLength h hlen, rfl, rfl⟩

/-- The TDES block commands end with `NotReady` where TDES is `Uninit`, else with `OK`. -/
theorem tdesBlock_endsWith :
    EndsWith .tdesEncryptBlock s (if s.tdes.readyBit = 0 then .notReady else .ok) ∧
    EndsWith .tdesDecryptBlock s (if s.tdes.readyBit = 0 then .notReady else .ok) := by
  cases he : s.tdes with
  | uninit =>
    obtain ⟨henc, hdec⟩ := exec_tdesBlock_uninit h he
    exact ⟨⟨_, _, henc, rfl, rfl⟩, _, _, hdec, rfl, rfl⟩
  | ready k =>
    obtain ⟨henc, hdec⟩ := exec_tdesBlock_ready h he
    exact ⟨⟨_, _, henc, rfl, rfl⟩, _, _, hdec, rfl, rfl⟩

/-- The SERPENT block commands end with `NotReady` where SERPENT is `Uninit`, else with `OK`. -/
theorem serpentBlock_endsWith :
    EndsWith .serpentEncryptBlock s (if s.serpent.readyBit = 0 then .notReady else .ok) ∧
    EndsWith .serpentDecryptBlock s (if s.serpent.readyBit = 0 then .notReady else .ok) := by
  cases he : s.serpent with
  | uninit =>
    obtain ⟨henc, hdec⟩ := exec_serpentBlock_uninit h he
    exact ⟨⟨_, _, henc, rfl, rfl⟩, _, _, hdec, rfl, rfl⟩
  | ready k =>
    obtain ⟨henc, hdec⟩ := exec_serpentBlock_ready h he
    exact ⟨⟨_, _, henc, rfl, rfl⟩, _, _, hdec, rfl, rfl⟩

end statuses

/-- Settles O12: an illegal word is refused, and a command ends with the status of its own checks. -/
theorem statusFollowsThePriorityOrder : Obligations.StatusFollowsThePriorityOrder := by
  intro s r rest h
  cases hd : decode r.word with
  | error e => exact ⟨_, _, step_of_decode_error h hd, rfl, rfl⟩
  | ok i =>
    rw [step_of_decode_ok h hd]
    cases i with
    | tdesMakeSchedule dir ktype klen =>
      have hends := tdesMakeSchedule_endsWith h dir ktype klen
      rw [tdesKeyStatus_eq] at hends
      exact hends
    | serpentMakeSchedule dir ktype klen =>
      have hends := serpentMakeSchedule_endsWith h dir ktype klen
      rw [serpentKeyStatus_eq] at hends
      exact hends
    | tdesEffectiveStrength klen => exact tdesEffectiveStrength_endsWith h klen
    | tdesEncryptBlock => exact (tdesBlock_endsWith h).1
    | tdesDecryptBlock => exact (tdesBlock_endsWith h).2
    | serpentEncryptBlock => exact (serpentBlock_endsWith h).1
    | serpentDecryptBlock => exact (serpentBlock_endsWith h).2
    | tdesBlockSize => exact ⟨_, _, tdesBlockSizeAnswersEight.2 s r rest h, rfl, rfl⟩
    | serpentBlockSize => exact ⟨_, _, serpentBlockSizeAnswersSixteen.2 s r rest h, rfl, rfl⟩

/-! ### Errors (60_exceptions.md R203) -/

/-- The one response appended is determined by the two lists. -/
theorem response_of_append_eq {l : List Response} {resp resp' : Response} (h : l ++ [resp] = l ++ [resp']) :
    resp = resp' := List.head_eq_of_cons_eq (List.append_cancel_left h)

/-- A response to a command that has a status other than `OK` has that status alone (30_encoding.md R65). -/
theorem response_of_error {i : Instr} {s t : State} {resp : Response} (ht : exec i s = .next t)
    (hresp : t.responses = s.responses ++ [resp]) (hne : resp.status ≠ .ok) : resp = .bare resp.status := by
  obtain ⟨r, rest, h⟩ := exec_next ht
  obtain ⟨t', resp', ht', hresp', hfits⟩ := exec_fits i h
  obtain rfl := Host.Outcome.next.inj (ht'.symm.trans ht)
  obtain rfl := response_of_append_eq (hresp'.symm.trans hresp)
  have hdout : resp'.dout = none := by simpa [hne] using hfits.dout
  have hval : resp'.val = none := by simpa [hne] using hfits.val
  exact congrArg₂ (Response.mk resp'.status) hdout hval

/-- A command that ends with a status other than `OK` delivers its response and writes nothing: the commands that write
end with `OK`. -/
theorem exec_error {i : Instr} {s t : State} {resp : Response} (ht : exec i s = .next t)
    (hresp : t.responses = s.responses ++ [resp]) (hne : resp.status ≠ .ok) : t = s.deliver resp := by
  obtain ⟨r, rest, h⟩ := exec_next ht
  obtain ⟨resp', he⟩ | ⟨dir, -, he⟩ | ⟨dir, klen, -, -, he⟩ := exec_cases i h <;>
    obtain rfl := Host.Outcome.next.inj (he.symm.trans ht) <;>
    obtain rfl := response_of_append_eq hresp
  · rfl
  · exact absurd rfl hne
  · exact absurd rfl hne

/-- Settles O23: the response of a failed command is its status, and delivering it is all the command does. -/
theorem errorsWriteNoState : Obligations.ErrorsWriteNoState :=
  fun _ _ _ _ ht hresp hne => ⟨response_of_error ht hresp hne, exec_error ht hresp hne⟩

/-- A step that answers a status other than `OK` delivers its response and writes nothing. -/
theorem step_error {s t : State} {r : Request} {rest : List HostEvent} {resp : Response}
    (h : s.issued = .command r :: rest) (ht : step s = .next t) (hresp : t.responses = s.responses ++ [resp])
    (hne : resp.status ≠ .ok) : t = s.deliver resp := by
  cases hd : decode r.word with
  | error e =>
    obtain rfl := Host.Outcome.next.inj ((step_of_decode_error h hd).symm.trans ht)
    rw [← response_of_append_eq hresp]
  | ok i => exact exec_error ((step_of_decode_ok h hd).symm.trans ht) hresp hne

/-! ### The status is not state (60_exceptions.md R202) -/

/-- The command presented and the engine's own fields fix what becomes of the two sub-engines and the response, whatever
is issued behind the command and whatever responses were delivered before. -/
theorem step_command_update (s : State) (r : Request) :
    ∃ (e : SubEngine TdesSchedule) (f : SubEngine SerpentSchedule) (resp : Response),
      ∀ (rest : List HostEvent) (l : List Response),
        step { s with issued := .command r :: rest, responses := l } =
          .next { s with tdes := e, serpent := f, issued := rest, responses := l ++ [resp] } := by
  cases hd : decode r.word with
  | error er => exact ⟨s.tdes, s.serpent, _, fun _ _ => step_of_decode_error rfl hd⟩
  | ok i =>
    cases hi : i.isTdes with
    | true =>
      obtain ⟨e, resp, he⟩ := exec_tdes_update hi r s.tdes
      exact ⟨e, s.serpent, resp, fun rest _ => (step_of_decode_ok rfl hd).trans (he _ rest rfl rfl)⟩
    | false =>
      obtain ⟨f, resp, hf⟩ := exec_serpent_update hi r s.variant s.serpent
      exact ⟨s.tdes, f, resp, fun rest _ => (step_of_decode_ok rfl hd).trans (hf _ rest rfl rfl rfl)⟩

/-- Earlier responses put before those of a state stand there after the step, which is otherwise the same. -/
theorem step_of_earlier_responses {s t : State} (earlier : List Response) (ht : step s = .next t) :
    step { s with responses := earlier ++ s.responses } = .next { t with responses := earlier ++ t.responses } := by
  obtain ⟨v, tdes, serpent, issued, responses⟩ := s
  match issued with
  | [] =>
    obtain rfl := Host.Outcome.next.inj ht
    rfl
  | .reset :: rest =>
    obtain rfl := Host.Outcome.next.inj ht
    rfl
  | .command r :: rest =>
    obtain ⟨e, f, resp, hstep⟩ := step_command_update ⟨v, tdes, serpent, [], []⟩ r
    obtain rfl := Host.Outcome.next.inj ((hstep rest responses).symm.trans ht)
    rw [← List.append_assoc]
    exact hstep rest (earlier ++ responses)

/-- Settles O24: no step reads a response, a failed command leaves the engine as it was, and the same engine answers the
same command alike. -/
theorem statusIsNotState : Obligations.StatusIsNotState := by
  refine ⟨fun s t earlier ht => step_of_earlier_responses earlier ht, fun s t r rest resp h ht hresp hne => ?_⟩
  obtain rfl := step_error h ht hresp hne
  refine ⟨by simp [deliver_of_issued h], fun rest' => ?_⟩
  obtain ⟨e, f, resp', hstep⟩ := step_command_update s r
  have hfirst : step s = _ := h ▸ hstep rest s.responses
  obtain rfl : resp = resp' :=
    response_of_append_eq (congrArg State.responses (Host.Outcome.next.inj (ht.symm.trans hfirst)))
  exact ⟨_, hstep rest' (s.responses ++ [resp]), rfl⟩

end Sys2Proof.Machine
end

section
/-! PROOFS. The statements of 70_reset_and_hazards.md: what a reset does, that no other step takes a sub-engine's schedule
away, and that every command is answered. -/

namespace Sys2Proof.Machine

/-! ### Reset (70_reset_and_hazards.md R230, R232) -/

/-- With a reset at the head of `issued`, the step takes it. -/
theorem step_of_reset {s : State} {rest : List HostEvent} (h : s.issued = .reset :: rest) :
    step s = .next { s with tdes := .uninit, serpent := .uninit, issued := rest } := by
  simp only [step, h, State.takeReset, List.tail_cons]

/-- A step that takes no reset keeps a ready sub-engine ready: it waits, or takes a command, and all that a command can
write is a schedule (10_state.md R25). -/
theorem step_keeps_ready {s t : State} (hreset : ∀ rest, s.issued ≠ .reset :: rest) (ht : step s = .next t) :
    (s.tdes.readyBit = 1 → t.tdes.readyBit = 1) ∧ (s.serpent.readyBit = 1 → t.serpent.readyBit = 1) := by
  match h : s.issued with
  | [] =>
    obtain rfl := Host.Outcome.next.inj ((step_of_idle h).symm.trans ht)
    exact ⟨id, id⟩
  | .reset :: rest => exact absurd h (hreset rest)
  | .command r :: rest =>
    obtain ⟨resp, he⟩ | ⟨dir, -, he⟩ | ⟨dir, klen, -, -, he⟩ := step_command_cases h <;>
      obtain rfl := Host.Outcome.next.inj (he.symm.trans ht)
    · exact ⟨id, id⟩
    · exact ⟨fun _ => rfl, id⟩
    · exact ⟨id, fun _ => rfl⟩

/-- Settles O8: the step that takes a reset, and that every other step keeps a ready sub-engine ready. -/
theorem resetIsTheOnlyWayBackToUninit : Obligations.ResetIsTheOnlyWayBackToUninit := by
  refine ⟨fun s rest h => step_of_reset h, fun s t ht hcleared => ?_⟩
  by_contra hnone
  obtain ⟨htdes, hserpent⟩ := step_keeps_ready (not_exists.1 hnone) ht
  obtain ⟨hready, hnot⟩ | ⟨hready, hnot⟩ := hcleared
  · exact absurd ((htdes hready).symm.trans hnot) (by decide)
  · exact absurd ((hserpent hready).symm.trans hnot) (by decide)

/-! ### Liveness (70_reset_and_hazards.md R239) -/

/-- Settles O10: whatever a command writes, its step ends by delivering one response. -/
theorem everyCommandEndsWithOneResponse : Obligations.EveryCommandEndsWithOneResponse := by
  intro s r rest h
  obtain ⟨resp, he⟩ | ⟨dir, -, he⟩ | ⟨dir, klen, -, -, he⟩ := step_command_cases h
  · exact ⟨_, resp, he, by simp [h], rfl⟩
  · exact ⟨_, .bare .ok, he, by simp [h], rfl⟩
  · exact ⟨_, .bare .ok, he, by simp [h], rfl⟩

end Sys2Proof.Machine
end
